-- ==== Sys2Proof/Word.lean ====
section
/-! DEFINITION. The words of the machine and the names its operands have (spec/00_scope.md R10, R11, R14 to R16). -/

namespace Sys2Proof

/-- An 8-bit value: a register, a byte of memory, a port's byte (R10). -/
abbrev Byte := BitVec 8

/-- A 16-bit value: SP, PC, an address, a register pair (R10). -/
abbrev Word := BitVec 16

/-- The seven 8-bit general registers (R20). -/
inductive Reg where
  | b | c | d | e | h | l | a
  deriving DecidableEq, Repr

/-- The 8-bit operands a 3-bit register code selects (R14): a register, or the memory byte at HL. -/
inductive R8 where
  | reg (r : Reg)
  | m
  deriving DecidableEq, Repr

/-- The three register pairs (R21). -/
inductive Pair where
  | bc | de | hl
  deriving DecidableEq, Repr

/-- The 16-bit operands of LXI, INX, DCX and DAD (R15): a register pair, or SP. -/
inductive RP where
  | pair (p : Pair)
  | sp
  deriving DecidableEq, Repr

/-- The two pairs LDAX and STAX use as an address (R111, R112). -/
inductive AddrPair where
  | bc | de
  deriving DecidableEq, Repr

/-- The eight conditions (R16). -/
inductive Cond where
  | nz | z | nc | c | po | pe | p | m
  deriving DecidableEq, Repr

/-- The eight two-operand instructions of the accumulator (R72, field aaa). -/
inductive AluOp where
  | add | adc | sub | sbb | ana | xra | ora | cmp
  deriving DecidableEq, Repr

/-- The flag word F: five one-bit flags (R24). -/
structure Flags where
  s  : Bool
  z  : Bool
  ac : Bool
  p  : Bool
  cy : Bool
  deriving DecidableEq, Repr

end Sys2Proof
end

