-- ==== Sys2Proof/Syntax.lean ====
section
/-! DEFINITION. The instruction set: one constructor for each of the 256 rows of spec/opcode_table.json (spec/30_encoding.md
R76 to R79), and the families of the opcode byte's fields (R72, R73) as functions of their operands. -/

namespace Sys2Proof

/-- One instruction with its operand: `d8` and port numbers are a Byte, `d16` and `a16` a Word (R71, R74). The number in a
constructor's comment is its opcode byte (R76). The 48 rows with an operand stand first (Lean's compiler numbers at most
244 constructors that carry a field). -/
inductive Instr where
  -- Data movement (40_data_movement.md), with an operand
  | mviB (v : Byte)  -- 06
  | mviC (v : Byte)  -- 0E
  | mviD (v : Byte)  -- 16
  | mviE (v : Byte)  -- 1E
  | mviH (v : Byte)  -- 26
  | mviL (v : Byte)  -- 2E
  | mviA (v : Byte)  -- 3E
  | mviM (v : Byte)  -- 36
  | lxiB (w : Word)  -- 01
  | lxiD (w : Word)  -- 11
  | lxiH (w : Word)  -- 21
  | lxiSp (w : Word)  -- 31
  | lda (w : Word)  -- 3A
  | sta (w : Word)  -- 32
  | lhld (w : Word)  -- 2A
  | shld (w : Word)  -- 22
  -- Arithmetic (41_arithmetic.md), with an operand
  | adi (v : Byte)  -- C6
  | aci (v : Byte)  -- CE
  | sui (v : Byte)  -- D6
  | sbi (v : Byte)  -- DE
  -- Logic (42_logic.md), with an operand
  | ani (v : Byte)  -- E6
  | xri (v : Byte)  -- EE
  | ori (v : Byte)  -- F6
  -- Compare (44_compare.md), with an operand
  | cpi (v : Byte)  -- FE
  -- Branch, call, return, restart (45_branch.md), with an operand
  | jmp (w : Word)  -- C3
  | jmpAliasCB (w : Word)  -- CB
  | jnz (w : Word)  -- C2
  | jz (w : Word)  -- CA
  | jnc (w : Word)  -- D2
  | jc (w : Word)  -- DA
  | jpo (w : Word)  -- E2
  | jpe (w : Word)  -- EA
  | jp (w : Word)  -- F2
  | jm (w : Word)  -- FA
  | call (w : Word)  -- CD
  | callAliasDD (w : Word)  -- DD
  | callAliasED (w : Word)  -- ED
  | callAliasFD (w : Word)  -- FD
  | cnz (w : Word)  -- C4
  | cz (w : Word)  -- CC
  | cnc (w : Word)  -- D4
  | cc (w : Word)  -- DC
  | cpo (w : Word)  -- E4
  | cpe (w : Word)  -- EC
  | cp (w : Word)  -- F4
  | cm (w : Word)  -- FC
  -- I/O and control (47_io_control.md), with an operand
  | inPort (v : Byte)  -- DB
  | outPort (v : Byte)  -- D3
  -- Data movement (40_data_movement.md), one byte
  | movBB  -- 40
  | movBC  -- 41
  | movBD  -- 42
  | movBE  -- 43
  | movBH  -- 44
  | movBL  -- 45
  | movBA  -- 47
  | movCB  -- 48
  | movCC  -- 49
  | movCD  -- 4A
  | movCE  -- 4B
  | movCH  -- 4C
  | movCL  -- 4D
  | movCA  -- 4F
  | movDB  -- 50
  | movDC  -- 51
  | movDD  -- 52
  | movDE  -- 53
  | movDH  -- 54
  | movDL  -- 55
  | movDA  -- 57
  | movEB  -- 58
  | movEC  -- 59
  | movED  -- 5A
  | movEE  -- 5B
  | movEH  -- 5C
  | movEL  -- 5D
  | movEA  -- 5F
  | movHB  -- 60
  | movHC  -- 61
  | movHD  -- 62
  | movHE  -- 63
  | movHH  -- 64
  | movHL  -- 65
  | movHA  -- 67
  | movLB  -- 68
  | movLC  -- 69
  | movLD  -- 6A
  | movLE  -- 6B
  | movLH  -- 6C
  | movLL  -- 6D
  | movLA  -- 6F
  | movAB  -- 78
  | movAC  -- 79
  | movAD  -- 7A
  | movAE  -- 7B
  | movAH  -- 7C
  | movAL  -- 7D
  | movAA  -- 7F
  | movBM  -- 46
  | movCM  -- 4E
  | movDM  -- 56
  | movEM  -- 5E
  | movHM  -- 66
  | movLM  -- 6E
  | movAM  -- 7E
  | movMB  -- 70
  | movMC  -- 71
  | movMD  -- 72
  | movME  -- 73
  | movMH  -- 74
  | movML  -- 75
  | movMA  -- 77
  | ldaxB  -- 0A
  | ldaxD  -- 1A
  | staxB  -- 02
  | staxD  -- 12
  | xchg  -- EB
  | xthl  -- E3
  | sphl  -- F9
  | pchl  -- E9
  -- Arithmetic (41_arithmetic.md), one byte
  | addB  -- 80
  | addC  -- 81
  | addD  -- 82
  | addE  -- 83
  | addH  -- 84
  | addL  -- 85
  | addM  -- 86
  | addA  -- 87
  | adcB  -- 88
  | adcC  -- 89
  | adcD  -- 8A
  | adcE  -- 8B
  | adcH  -- 8C
  | adcL  -- 8D
  | adcM  -- 8E
  | adcA  -- 8F
  | subB  -- 90
  | subC  -- 91
  | subD  -- 92
  | subE  -- 93
  | subH  -- 94
  | subL  -- 95
  | subM  -- 96
  | subA  -- 97
  | sbbB  -- 98
  | sbbC  -- 99
  | sbbD  -- 9A
  | sbbE  -- 9B
  | sbbH  -- 9C
  | sbbL  -- 9D
  | sbbM  -- 9E
  | sbbA  -- 9F
  | inrB  -- 04
  | inrC  -- 0C
  | inrD  -- 14
  | inrE  -- 1C
  | inrH  -- 24
  | inrL  -- 2C
  | inrM  -- 34
  | inrA  -- 3C
  | dcrB  -- 05
  | dcrC  -- 0D
  | dcrD  -- 15
  | dcrE  -- 1D
  | dcrH  -- 25
  | dcrL  -- 2D
  | dcrM  -- 35
  | dcrA  -- 3D
  | inxB  -- 03
  | inxD  -- 13
  | inxH  -- 23
  | inxSp  -- 33
  | dcxB  -- 0B
  | dcxD  -- 1B
  | dcxH  -- 2B
  | dcxSp  -- 3B
  | dadB  -- 09
  | dadD  -- 19
  | dadH  -- 29
  | dadSp  -- 39
  | daa  -- 27
  -- Logic (42_logic.md), one byte
  | anaB  -- A0
  | anaC  -- A1
  | anaD  -- A2
  | anaE  -- A3
  | anaH  -- A4
  | anaL  -- A5
  | anaM  -- A6
  | anaA  -- A7
  | xraB  -- A8
  | xraC  -- A9
  | xraD  -- AA
  | xraE  -- AB
  | xraH  -- AC
  | xraL  -- AD
  | xraM  -- AE
  | xraA  -- AF
  | oraB  -- B0
  | oraC  -- B1
  | oraD  -- B2
  | oraE  -- B3
  | oraH  -- B4
  | oraL  -- B5
  | oraM  -- B6
  | oraA  -- B7
  | cma  -- 2F
  | cmc  -- 3F
  | stc  -- 37
  -- Rotates (43_rotate.md), one byte
  | rlc  -- 07
  | rrc  -- 0F
  | ral  -- 17
  | rar  -- 1F
  -- Compare (44_compare.md), one byte
  | cmpB  -- B8
  | cmpC  -- B9
  | cmpD  -- BA
  | cmpE  -- BB
  | cmpH  -- BC
  | cmpL  -- BD
  | cmpM  -- BE
  | cmpA  -- BF
  -- Branch, call, return, restart (45_branch.md), one byte
  | ret  -- C9
  | retAliasD9  -- D9
  | rnz  -- C0
  | rz  -- C8
  | rnc  -- D0
  | rc  -- D8
  | rpo  -- E0
  | rpe  -- E8
  | rp  -- F0
  | rm  -- F8
  | rst0  -- C7
  | rst1  -- CF
  | rst2  -- D7
  | rst3  -- DF
  | rst4  -- E7
  | rst5  -- EF
  | rst6  -- F7
  | rst7  -- FF
  -- Stack (46_stack.md), one byte
  | pushB  -- C5
  | pushD  -- D5
  | pushH  -- E5
  | pushPsw  -- F5
  | popB  -- C1
  | popD  -- D1
  | popH  -- E1
  | popPsw  -- F1
  -- I/O and control (47_io_control.md), one byte
  | ei  -- FB
  | di  -- F3
  | hlt  -- 76
  | nop  -- 00
  | nopReserved08  -- 08
  | nopReserved10  -- 10
  | nopReserved18  -- 18
  | nopReserved20  -- 20
  | nopReserved28  -- 28
  | nopReserved30  -- 30
  | nopReserved38  -- 38
  deriving DecidableEq, Repr

/-! ## The families of R72: each names the instruction that its fields select -/

/-- `MOV r,r'` (R101): destination, source. -/
def Instr.movRR : Reg → Reg → Instr
  | .b, .b => .movBB
  | .b, .c => .movBC
  | .b, .d => .movBD
  | .b, .e => .movBE
  | .b, .h => .movBH
  | .b, .l => .movBL
  | .b, .a => .movBA
  | .c, .b => .movCB
  | .c, .c => .movCC
  | .c, .d => .movCD
  | .c, .e => .movCE
  | .c, .h => .movCH
  | .c, .l => .movCL
  | .c, .a => .movCA
  | .d, .b => .movDB
  | .d, .c => .movDC
  | .d, .d => .movDD
  | .d, .e => .movDE
  | .d, .h => .movDH
  | .d, .l => .movDL
  | .d, .a => .movDA
  | .e, .b => .movEB
  | .e, .c => .movEC
  | .e, .d => .movED
  | .e, .e => .movEE
  | .e, .h => .movEH
  | .e, .l => .movEL
  | .e, .a => .movEA
  | .h, .b => .movHB
  | .h, .c => .movHC
  | .h, .d => .movHD
  | .h, .e => .movHE
  | .h, .h => .movHH
  | .h, .l => .movHL
  | .h, .a => .movHA
  | .l, .b => .movLB
  | .l, .c => .movLC
  | .l, .d => .movLD
  | .l, .e => .movLE
  | .l, .h => .movLH
  | .l, .l => .movLL
  | .l, .a => .movLA
  | .a, .b => .movAB
  | .a, .c => .movAC
  | .a, .d => .movAD
  | .a, .e => .movAE
  | .a, .h => .movAH
  | .a, .l => .movAL
  | .a, .a => .movAA

/-- `MOV r,M` (R102). -/
def Instr.movRM : Reg → Instr
  | .b => .movBM
  | .c => .movCM
  | .d => .movDM
  | .e => .movEM
  | .h => .movHM
  | .l => .movLM
  | .a => .movAM

/-- `MOV M,r` (R103). -/
def Instr.movMR : Reg → Instr
  | .b => .movMB
  | .c => .movMC
  | .d => .movMD
  | .e => .movME
  | .h => .movMH
  | .l => .movML
  | .a => .movMA

/-- `MVI r,d8` (R104). -/
def Instr.mviR : Reg → Byte → Instr
  | .b, v => .mviB v
  | .c, v => .mviC v
  | .d, v => .mviD v
  | .e, v => .mviE v
  | .h, v => .mviH v
  | .l, v => .mviL v
  | .a, v => .mviA v

/-- `LXI rp,d16` (R106). -/
def Instr.lxi : RP → Word → Instr
  | .pair .bc, w => .lxiB w
  | .pair .de, w => .lxiD w
  | .pair .hl, w => .lxiH w
  | .sp, w => .lxiSp w

/-- `LDAX` (R111). -/
def Instr.ldax : AddrPair → Instr
  | .bc => .ldaxB
  | .de => .ldaxD

/-- `STAX` (R112). -/
def Instr.stax : AddrPair → Instr
  | .bc => .staxB
  | .de => .staxD

/-- The register form `10aaasss` (R72): operation, source. -/
def Instr.alu : AluOp → R8 → Instr
  | .add, .reg .b => .addB
  | .add, .reg .c => .addC
  | .add, .reg .d => .addD
  | .add, .reg .e => .addE
  | .add, .reg .h => .addH
  | .add, .reg .l => .addL
  | .add, .m => .addM
  | .add, .reg .a => .addA
  | .adc, .reg .b => .adcB
  | .adc, .reg .c => .adcC
  | .adc, .reg .d => .adcD
  | .adc, .reg .e => .adcE
  | .adc, .reg .h => .adcH
  | .adc, .reg .l => .adcL
  | .adc, .m => .adcM
  | .adc, .reg .a => .adcA
  | .sub, .reg .b => .subB
  | .sub, .reg .c => .subC
  | .sub, .reg .d => .subD
  | .sub, .reg .e => .subE
  | .sub, .reg .h => .subH
  | .sub, .reg .l => .subL
  | .sub, .m => .subM
  | .sub, .reg .a => .subA
  | .sbb, .reg .b => .sbbB
  | .sbb, .reg .c => .sbbC
  | .sbb, .reg .d => .sbbD
  | .sbb, .reg .e => .sbbE
  | .sbb, .reg .h => .sbbH
  | .sbb, .reg .l => .sbbL
  | .sbb, .m => .sbbM
  | .sbb, .reg .a => .sbbA
  | .ana, .reg .b => .anaB
  | .ana, .reg .c => .anaC
  | .ana, .reg .d => .anaD
  | .ana, .reg .e => .anaE
  | .ana, .reg .h => .anaH
  | .ana, .reg .l => .anaL
  | .ana, .m => .anaM
  | .ana, .reg .a => .anaA
  | .xra, .reg .b => .xraB
  | .xra, .reg .c => .xraC
  | .xra, .reg .d => .xraD
  | .xra, .reg .e => .xraE
  | .xra, .reg .h => .xraH
  | .xra, .reg .l => .xraL
  | .xra, .m => .xraM
  | .xra, .reg .a => .xraA
  | .ora, .reg .b => .oraB
  | .ora, .reg .c => .oraC
  | .ora, .reg .d => .oraD
  | .ora, .reg .e => .oraE
  | .ora, .reg .h => .oraH
  | .ora, .reg .l => .oraL
  | .ora, .m => .oraM
  | .ora, .reg .a => .oraA
  | .cmp, .reg .b => .cmpB
  | .cmp, .reg .c => .cmpC
  | .cmp, .reg .d => .cmpD
  | .cmp, .reg .e => .cmpE
  | .cmp, .reg .h => .cmpH
  | .cmp, .reg .l => .cmpL
  | .cmp, .m => .cmpM
  | .cmp, .reg .a => .cmpA

/-- The immediate form `11aaa110` (R72). -/
def Instr.aluImm : AluOp → Byte → Instr
  | .add, v => .adi v
  | .adc, v => .aci v
  | .sub, v => .sui v
  | .sbb, v => .sbi v
  | .ana, v => .ani v
  | .xra, v => .xri v
  | .ora, v => .ori v
  | .cmp, v => .cpi v

/-- `INR` (R130). -/
def Instr.inr : R8 → Instr
  | .reg .b => .inrB
  | .reg .c => .inrC
  | .reg .d => .inrD
  | .reg .e => .inrE
  | .reg .h => .inrH
  | .reg .l => .inrL
  | .m => .inrM
  | .reg .a => .inrA

/-- `DCR` (R131). -/
def Instr.dcr : R8 → Instr
  | .reg .b => .dcrB
  | .reg .c => .dcrC
  | .reg .d => .dcrD
  | .reg .e => .dcrE
  | .reg .h => .dcrH
  | .reg .l => .dcrL
  | .m => .dcrM
  | .reg .a => .dcrA

/-- `INX rp` (R132). -/
def Instr.inx : RP → Instr
  | .pair .bc => .inxB
  | .pair .de => .inxD
  | .pair .hl => .inxH
  | .sp => .inxSp

/-- `DCX rp` (R133). -/
def Instr.dcx : RP → Instr
  | .pair .bc => .dcxB
  | .pair .de => .dcxD
  | .pair .hl => .dcxH
  | .sp => .dcxSp

/-- `DAD rp` (R134). -/
def Instr.dad : RP → Instr
  | .pair .bc => .dadB
  | .pair .de => .dadD
  | .pair .hl => .dadH
  | .sp => .dadSp

/-- `Jcc a16` (R192). -/
def Instr.jumpIf : Cond → Word → Instr
  | .nz, w => .jnz w
  | .z, w => .jz w
  | .nc, w => .jnc w
  | .c, w => .jc w
  | .po, w => .jpo w
  | .pe, w => .jpe w
  | .p, w => .jp w
  | .m, w => .jm w

/-- `Ccc a16` (R194). -/
def Instr.callIf : Cond → Word → Instr
  | .nz, w => .cnz w
  | .z, w => .cz w
  | .nc, w => .cnc w
  | .c, w => .cc w
  | .po, w => .cpo w
  | .pe, w => .cpe w
  | .p, w => .cp w
  | .m, w => .cm w

/-- `Rcc` (R196). -/
def Instr.retIf : Cond → Instr
  | .nz => .rnz
  | .z => .rz
  | .nc => .rnc
  | .c => .rc
  | .po => .rpo
  | .pe => .rpe
  | .p => .rp
  | .m => .rm

/-- `RST n` (R197). -/
def Instr.rst : Fin 8 → Instr
  | 0 => .rst0
  | 1 => .rst1
  | 2 => .rst2
  | 3 => .rst3
  | 4 => .rst4
  | 5 => .rst5
  | 6 => .rst6
  | 7 => .rst7

/-- `PUSH rp` for a register pair (R221). -/
def Instr.push : Pair → Instr
  | .bc => .pushB
  | .de => .pushD
  | .hl => .pushH

/-- `POP rp` for a register pair (R223). -/
def Instr.pop : Pair → Instr
  | .bc => .popB
  | .de => .popD
  | .hl => .popH

/-- The seven reserved NOPs `00xxx000`, xxx = 1..7 (R78, R238). -/
def Instr.reservedNops : List Instr :=
  [.nopReserved08, .nopReserved10, .nopReserved18, .nopReserved20, .nopReserved28, .nopReserved30, .nopReserved38]

/-- `JMP a16` and its alias 0xCB (R77, R191). -/
def Instr.jumps (w : Word) : List Instr := [.jmp w, .jmpAliasCB w]

/-- `CALL a16` and its aliases 0xDD, 0xED, 0xFD (R77, R193). -/
def Instr.calls (w : Word) : List Instr := [.call w, .callAliasDD w, .callAliasED w, .callAliasFD w]

/-- `RET` and its alias 0xD9 (R77, R195). -/
def Instr.returns : List Instr := [.ret, .retAliasD9]

end Sys2Proof
end

