-- ==== Sys2Proof/Decode.lean ====
section
/-! DEFINITION. Decoding and encoding (spec/30_encoding.md R70 to R80). The decoder reads the opcode map of R76; the
encoder lists the opcode byte of every row of spec/opcode_table.json. -/

namespace Sys2Proof

/-- Why a byte sequence is no instruction. Every opcode byte is defined (R79), so the only reason is that the sequence ends
before the instruction does. -/
inductive DecodeError where
  | noOpcode
  | missingOperand
  deriving DecidableEq, Repr

/-- The three formats (R71): no operand, `d8`, or a 16-bit operand low byte first. -/
inductive Form where
  | f1 (i : Instr)
  | f2 (mk : Byte → Instr)
  | f3 (mk : Word → Instr)

/-- A 16-bit operand from its two bytes: byte 3 ++ byte 2 (R74). -/
def imm16 (lo hi : Byte) : Word := hi ++ lo

/-- The low byte of a 16-bit operand, byte 2 (R74). -/
def immLow (w : Word) : Byte := w.setWidth 8

/-- The high byte of a 16-bit operand, byte 3 (R74). -/
def immHigh (w : Word) : Byte := (w >>> 8).setWidth 8

/-- Row 0x of the opcode map (R76). -/
def opcodeRow0 : List Form :=
  [.f1 .nop, .f3 .lxiB, .f1 .staxB, .f1 .inxB,
   .f1 .inrB, .f1 .dcrB, .f2 .mviB, .f1 .rlc,
   .f1 .nopReserved08, .f1 .dadB, .f1 .ldaxB, .f1 .dcxB,
   .f1 .inrC, .f1 .dcrC, .f2 .mviC, .f1 .rrc]

/-- Row 1x of the opcode map (R76). -/
def opcodeRow1 : List Form :=
  [.f1 .nopReserved10, .f3 .lxiD, .f1 .staxD, .f1 .inxD,
   .f1 .inrD, .f1 .dcrD, .f2 .mviD, .f1 .ral,
   .f1 .nopReserved18, .f1 .dadD, .f1 .ldaxD, .f1 .dcxD,
   .f1 .inrE, .f1 .dcrE, .f2 .mviE, .f1 .rar]

/-- Row 2x of the opcode map (R76). -/
def opcodeRow2 : List Form :=
  [.f1 .nopReserved20, .f3 .lxiH, .f3 .shld, .f1 .inxH,
   .f1 .inrH, .f1 .dcrH, .f2 .mviH, .f1 .daa,
   .f1 .nopReserved28, .f1 .dadH, .f3 .lhld, .f1 .dcxH,
   .f1 .inrL, .f1 .dcrL, .f2 .mviL, .f1 .cma]

/-- Row 3x of the opcode map (R76). -/
def opcodeRow3 : List Form :=
  [.f1 .nopReserved30, .f3 .lxiSp, .f3 .sta, .f1 .inxSp,
   .f1 .inrM, .f1 .dcrM, .f2 .mviM, .f1 .stc,
   .f1 .nopReserved38, .f1 .dadSp, .f3 .lda, .f1 .dcxSp,
   .f1 .inrA, .f1 .dcrA, .f2 .mviA, .f1 .cmc]

/-- Row 4x of the opcode map (R76). -/
def opcodeRow4 : List Form :=
  [.f1 .movBB, .f1 .movBC, .f1 .movBD, .f1 .movBE,
   .f1 .movBH, .f1 .movBL, .f1 .movBM, .f1 .movBA,
   .f1 .movCB, .f1 .movCC, .f1 .movCD, .f1 .movCE,
   .f1 .movCH, .f1 .movCL, .f1 .movCM, .f1 .movCA]

/-- Row 5x of the opcode map (R76). -/
def opcodeRow5 : List Form :=
  [.f1 .movDB, .f1 .movDC, .f1 .movDD, .f1 .movDE,
   .f1 .movDH, .f1 .movDL, .f1 .movDM, .f1 .movDA,
   .f1 .movEB, .f1 .movEC, .f1 .movED, .f1 .movEE,
   .f1 .movEH, .f1 .movEL, .f1 .movEM, .f1 .movEA]

/-- Row 6x of the opcode map (R76). -/
def opcodeRow6 : List Form :=
  [.f1 .movHB, .f1 .movHC, .f1 .movHD, .f1 .movHE,
   .f1 .movHH, .f1 .movHL, .f1 .movHM, .f1 .movHA,
   .f1 .movLB, .f1 .movLC, .f1 .movLD, .f1 .movLE,
   .f1 .movLH, .f1 .movLL, .f1 .movLM, .f1 .movLA]

/-- Row 7x of the opcode map (R76). -/
def opcodeRow7 : List Form :=
  [.f1 .movMB, .f1 .movMC, .f1 .movMD, .f1 .movME,
   .f1 .movMH, .f1 .movML, .f1 .hlt, .f1 .movMA,
   .f1 .movAB, .f1 .movAC, .f1 .movAD, .f1 .movAE,
   .f1 .movAH, .f1 .movAL, .f1 .movAM, .f1 .movAA]

/-- Row 8x of the opcode map (R76). -/
def opcodeRow8 : List Form :=
  [.f1 .addB, .f1 .addC, .f1 .addD, .f1 .addE,
   .f1 .addH, .f1 .addL, .f1 .addM, .f1 .addA,
   .f1 .adcB, .f1 .adcC, .f1 .adcD, .f1 .adcE,
   .f1 .adcH, .f1 .adcL, .f1 .adcM, .f1 .adcA]

/-- Row 9x of the opcode map (R76). -/
def opcodeRow9 : List Form :=
  [.f1 .subB, .f1 .subC, .f1 .subD, .f1 .subE,
   .f1 .subH, .f1 .subL, .f1 .subM, .f1 .subA,
   .f1 .sbbB, .f1 .sbbC, .f1 .sbbD, .f1 .sbbE,
   .f1 .sbbH, .f1 .sbbL, .f1 .sbbM, .f1 .sbbA]

/-- Row Ax of the opcode map (R76). -/
def opcodeRowA : List Form :=
  [.f1 .anaB, .f1 .anaC, .f1 .anaD, .f1 .anaE,
   .f1 .anaH, .f1 .anaL, .f1 .anaM, .f1 .anaA,
   .f1 .xraB, .f1 .xraC, .f1 .xraD, .f1 .xraE,
   .f1 .xraH, .f1 .xraL, .f1 .xraM, .f1 .xraA]

/-- Row Bx of the opcode map (R76). -/
def opcodeRowB : List Form :=
  [.f1 .oraB, .f1 .oraC, .f1 .oraD, .f1 .oraE,
   .f1 .oraH, .f1 .oraL, .f1 .oraM, .f1 .oraA,
   .f1 .cmpB, .f1 .cmpC, .f1 .cmpD, .f1 .cmpE,
   .f1 .cmpH, .f1 .cmpL, .f1 .cmpM, .f1 .cmpA]

/-- Row Cx of the opcode map (R76). -/
def opcodeRowC : List Form :=
  [.f1 .rnz, .f1 .popB, .f3 .jnz, .f3 .jmp,
   .f3 .cnz, .f1 .pushB, .f2 .adi, .f1 .rst0,
   .f1 .rz, .f1 .ret, .f3 .jz, .f3 .jmpAliasCB,
   .f3 .cz, .f3 .call, .f2 .aci, .f1 .rst1]

/-- Row Dx of the opcode map (R76). -/
def opcodeRowD : List Form :=
  [.f1 .rnc, .f1 .popD, .f3 .jnc, .f2 .outPort,
   .f3 .cnc, .f1 .pushD, .f2 .sui, .f1 .rst2,
   .f1 .rc, .f1 .retAliasD9, .f3 .jc, .f2 .inPort,
   .f3 .cc, .f3 .callAliasDD, .f2 .sbi, .f1 .rst3]

/-- Row Ex of the opcode map (R76). -/
def opcodeRowE : List Form :=
  [.f1 .rpo, .f1 .popH, .f3 .jpo, .f1 .xthl,
   .f3 .cpo, .f1 .pushH, .f2 .ani, .f1 .rst4,
   .f1 .rpe, .f1 .pchl, .f3 .jpe, .f1 .xchg,
   .f3 .cpe, .f3 .callAliasED, .f2 .xri, .f1 .rst5]

/-- Row Fx of the opcode map (R76). -/
def opcodeRowF : List Form :=
  [.f1 .rp, .f1 .popPsw, .f3 .jp, .f1 .di,
   .f3 .cp, .f1 .pushPsw, .f2 .ori, .f1 .rst6,
   .f1 .rm, .f1 .sphl, .f3 .jm, .f1 .ei,
   .f3 .cm, .f3 .callAliasFD, .f2 .cpi, .f1 .rst7]

/-- The opcode map, row by row (R76). -/
def opcodeMap : List Form :=
  opcodeRow0 ++ opcodeRow1 ++ opcodeRow2 ++ opcodeRow3 ++ opcodeRow4 ++ opcodeRow5 ++ opcodeRow6 ++ opcodeRow7 ++
  opcodeRow8 ++ opcodeRow9 ++ opcodeRowA ++ opcodeRowB ++ opcodeRowC ++ opcodeRowD ++ opcodeRowE ++ opcodeRowF

/-- What the opcode byte alone selects (R70). The map has 256 rows, so the default is never taken. -/
def formOf (op : Byte) : Form := opcodeMap.getD op.toNat (.f1 .nop)

/-- The decoder, on any bytes: the instruction and the bytes after it, or the name of what is missing. -/
def decode : List Byte → Except DecodeError (Instr × List Byte)
  | [] => .error .noOpcode
  | op :: rest =>
    match formOf op, rest with
    | .f1 i, rest => .ok (i, rest)
    | .f2 mk, v :: rest => .ok (mk v, rest)
    | .f3 mk, lo :: hi :: rest => .ok (mk (imm16 lo hi), rest)
    | _, _ => .error .missingOperand

/-- The opcode byte of an instruction (spec/opcode_table.json, field match). -/
def Instr.opcode : Instr → Byte
  | .nop => 0x00
  | .lxiB _ => 0x01
  | .staxB => 0x02
  | .inxB => 0x03
  | .inrB => 0x04
  | .dcrB => 0x05
  | .mviB _ => 0x06
  | .rlc => 0x07
  | .nopReserved08 => 0x08
  | .dadB => 0x09
  | .ldaxB => 0x0A
  | .dcxB => 0x0B
  | .inrC => 0x0C
  | .dcrC => 0x0D
  | .mviC _ => 0x0E
  | .rrc => 0x0F
  | .nopReserved10 => 0x10
  | .lxiD _ => 0x11
  | .staxD => 0x12
  | .inxD => 0x13
  | .inrD => 0x14
  | .dcrD => 0x15
  | .mviD _ => 0x16
  | .ral => 0x17
  | .nopReserved18 => 0x18
  | .dadD => 0x19
  | .ldaxD => 0x1A
  | .dcxD => 0x1B
  | .inrE => 0x1C
  | .dcrE => 0x1D
  | .mviE _ => 0x1E
  | .rar => 0x1F
  | .nopReserved20 => 0x20
  | .lxiH _ => 0x21
  | .shld _ => 0x22
  | .inxH => 0x23
  | .inrH => 0x24
  | .dcrH => 0x25
  | .mviH _ => 0x26
  | .daa => 0x27
  | .nopReserved28 => 0x28
  | .dadH => 0x29
  | .lhld _ => 0x2A
  | .dcxH => 0x2B
  | .inrL => 0x2C
  | .dcrL => 0x2D
  | .mviL _ => 0x2E
  | .cma => 0x2F
  | .nopReserved30 => 0x30
  | .lxiSp _ => 0x31
  | .sta _ => 0x32
  | .inxSp => 0x33
  | .inrM => 0x34
  | .dcrM => 0x35
  | .mviM _ => 0x36
  | .stc => 0x37
  | .nopReserved38 => 0x38
  | .dadSp => 0x39
  | .lda _ => 0x3A
  | .dcxSp => 0x3B
  | .inrA => 0x3C
  | .dcrA => 0x3D
  | .mviA _ => 0x3E
  | .cmc => 0x3F
  | .movBB => 0x40
  | .movBC => 0x41
  | .movBD => 0x42
  | .movBE => 0x43
  | .movBH => 0x44
  | .movBL => 0x45
  | .movBM => 0x46
  | .movBA => 0x47
  | .movCB => 0x48
  | .movCC => 0x49
  | .movCD => 0x4A
  | .movCE => 0x4B
  | .movCH => 0x4C
  | .movCL => 0x4D
  | .movCM => 0x4E
  | .movCA => 0x4F
  | .movDB => 0x50
  | .movDC => 0x51
  | .movDD => 0x52
  | .movDE => 0x53
  | .movDH => 0x54
  | .movDL => 0x55
  | .movDM => 0x56
  | .movDA => 0x57
  | .movEB => 0x58
  | .movEC => 0x59
  | .movED => 0x5A
  | .movEE => 0x5B
  | .movEH => 0x5C
  | .movEL => 0x5D
  | .movEM => 0x5E
  | .movEA => 0x5F
  | .movHB => 0x60
  | .movHC => 0x61
  | .movHD => 0x62
  | .movHE => 0x63
  | .movHH => 0x64
  | .movHL => 0x65
  | .movHM => 0x66
  | .movHA => 0x67
  | .movLB => 0x68
  | .movLC => 0x69
  | .movLD => 0x6A
  | .movLE => 0x6B
  | .movLH => 0x6C
  | .movLL => 0x6D
  | .movLM => 0x6E
  | .movLA => 0x6F
  | .movMB => 0x70
  | .movMC => 0x71
  | .movMD => 0x72
  | .movME => 0x73
  | .movMH => 0x74
  | .movML => 0x75
  | .hlt => 0x76
  | .movMA => 0x77
  | .movAB => 0x78
  | .movAC => 0x79
  | .movAD => 0x7A
  | .movAE => 0x7B
  | .movAH => 0x7C
  | .movAL => 0x7D
  | .movAM => 0x7E
  | .movAA => 0x7F
  | .addB => 0x80
  | .addC => 0x81
  | .addD => 0x82
  | .addE => 0x83
  | .addH => 0x84
  | .addL => 0x85
  | .addM => 0x86
  | .addA => 0x87
  | .adcB => 0x88
  | .adcC => 0x89
  | .adcD => 0x8A
  | .adcE => 0x8B
  | .adcH => 0x8C
  | .adcL => 0x8D
  | .adcM => 0x8E
  | .adcA => 0x8F
  | .subB => 0x90
  | .subC => 0x91
  | .subD => 0x92
  | .subE => 0x93
  | .subH => 0x94
  | .subL => 0x95
  | .subM => 0x96
  | .subA => 0x97
  | .sbbB => 0x98
  | .sbbC => 0x99
  | .sbbD => 0x9A
  | .sbbE => 0x9B
  | .sbbH => 0x9C
  | .sbbL => 0x9D
  | .sbbM => 0x9E
  | .sbbA => 0x9F
  | .anaB => 0xA0
  | .anaC => 0xA1
  | .anaD => 0xA2
  | .anaE => 0xA3
  | .anaH => 0xA4
  | .anaL => 0xA5
  | .anaM => 0xA6
  | .anaA => 0xA7
  | .xraB => 0xA8
  | .xraC => 0xA9
  | .xraD => 0xAA
  | .xraE => 0xAB
  | .xraH => 0xAC
  | .xraL => 0xAD
  | .xraM => 0xAE
  | .xraA => 0xAF
  | .oraB => 0xB0
  | .oraC => 0xB1
  | .oraD => 0xB2
  | .oraE => 0xB3
  | .oraH => 0xB4
  | .oraL => 0xB5
  | .oraM => 0xB6
  | .oraA => 0xB7
  | .cmpB => 0xB8
  | .cmpC => 0xB9
  | .cmpD => 0xBA
  | .cmpE => 0xBB
  | .cmpH => 0xBC
  | .cmpL => 0xBD
  | .cmpM => 0xBE
  | .cmpA => 0xBF
  | .rnz => 0xC0
  | .popB => 0xC1
  | .jnz _ => 0xC2
  | .jmp _ => 0xC3
  | .cnz _ => 0xC4
  | .pushB => 0xC5
  | .adi _ => 0xC6
  | .rst0 => 0xC7
  | .rz => 0xC8
  | .ret => 0xC9
  | .jz _ => 0xCA
  | .jmpAliasCB _ => 0xCB
  | .cz _ => 0xCC
  | .call _ => 0xCD
  | .aci _ => 0xCE
  | .rst1 => 0xCF
  | .rnc => 0xD0
  | .popD => 0xD1
  | .jnc _ => 0xD2
  | .outPort _ => 0xD3
  | .cnc _ => 0xD4
  | .pushD => 0xD5
  | .sui _ => 0xD6
  | .rst2 => 0xD7
  | .rc => 0xD8
  | .retAliasD9 => 0xD9
  | .jc _ => 0xDA
  | .inPort _ => 0xDB
  | .cc _ => 0xDC
  | .callAliasDD _ => 0xDD
  | .sbi _ => 0xDE
  | .rst3 => 0xDF
  | .rpo => 0xE0
  | .popH => 0xE1
  | .jpo _ => 0xE2
  | .xthl => 0xE3
  | .cpo _ => 0xE4
  | .pushH => 0xE5
  | .ani _ => 0xE6
  | .rst4 => 0xE7
  | .rpe => 0xE8
  | .pchl => 0xE9
  | .jpe _ => 0xEA
  | .xchg => 0xEB
  | .cpe _ => 0xEC
  | .callAliasED _ => 0xED
  | .xri _ => 0xEE
  | .rst5 => 0xEF
  | .rp => 0xF0
  | .popPsw => 0xF1
  | .jp _ => 0xF2
  | .di => 0xF3
  | .cp _ => 0xF4
  | .pushPsw => 0xF5
  | .ori _ => 0xF6
  | .rst6 => 0xF7
  | .rm => 0xF8
  | .sphl => 0xF9
  | .jm _ => 0xFA
  | .ei => 0xFB
  | .cm _ => 0xFC
  | .callAliasFD _ => 0xFD
  | .cpi _ => 0xFE
  | .rst7 => 0xFF

/-- The operand bytes of an instruction, in memory order (R71, R74). -/
def Instr.operandBytes : Instr → List Byte
  | .lxiB w => [immLow w, immHigh w]
  | .mviB v => [v]
  | .mviC v => [v]
  | .lxiD w => [immLow w, immHigh w]
  | .mviD v => [v]
  | .mviE v => [v]
  | .lxiH w => [immLow w, immHigh w]
  | .shld w => [immLow w, immHigh w]
  | .mviH v => [v]
  | .lhld w => [immLow w, immHigh w]
  | .mviL v => [v]
  | .lxiSp w => [immLow w, immHigh w]
  | .sta w => [immLow w, immHigh w]
  | .mviM v => [v]
  | .lda w => [immLow w, immHigh w]
  | .mviA v => [v]
  | .jnz w => [immLow w, immHigh w]
  | .jmp w => [immLow w, immHigh w]
  | .cnz w => [immLow w, immHigh w]
  | .adi v => [v]
  | .jz w => [immLow w, immHigh w]
  | .jmpAliasCB w => [immLow w, immHigh w]
  | .cz w => [immLow w, immHigh w]
  | .call w => [immLow w, immHigh w]
  | .aci v => [v]
  | .jnc w => [immLow w, immHigh w]
  | .outPort v => [v]
  | .cnc w => [immLow w, immHigh w]
  | .sui v => [v]
  | .jc w => [immLow w, immHigh w]
  | .inPort v => [v]
  | .cc w => [immLow w, immHigh w]
  | .callAliasDD w => [immLow w, immHigh w]
  | .sbi v => [v]
  | .jpo w => [immLow w, immHigh w]
  | .cpo w => [immLow w, immHigh w]
  | .ani v => [v]
  | .jpe w => [immLow w, immHigh w]
  | .cpe w => [immLow w, immHigh w]
  | .callAliasED w => [immLow w, immHigh w]
  | .xri v => [v]
  | .jp w => [immLow w, immHigh w]
  | .cp w => [immLow w, immHigh w]
  | .ori v => [v]
  | .jm w => [immLow w, immHigh w]
  | .cm w => [immLow w, immHigh w]
  | .callAliasFD w => [immLow w, immHigh w]
  | .cpi v => [v]
  | .nop => []
  | .staxB => []
  | .inxB => []
  | .inrB => []
  | .dcrB => []
  | .rlc => []
  | .nopReserved08 => []
  | .dadB => []
  | .ldaxB => []
  | .dcxB => []
  | .inrC => []
  | .dcrC => []
  | .rrc => []
  | .nopReserved10 => []
  | .staxD => []
  | .inxD => []
  | .inrD => []
  | .dcrD => []
  | .ral => []
  | .nopReserved18 => []
  | .dadD => []
  | .ldaxD => []
  | .dcxD => []
  | .inrE => []
  | .dcrE => []
  | .rar => []
  | .nopReserved20 => []
  | .inxH => []
  | .inrH => []
  | .dcrH => []
  | .daa => []
  | .nopReserved28 => []
  | .dadH => []
  | .dcxH => []
  | .inrL => []
  | .dcrL => []
  | .cma => []
  | .nopReserved30 => []
  | .inxSp => []
  | .inrM => []
  | .dcrM => []
  | .stc => []
  | .nopReserved38 => []
  | .dadSp => []
  | .dcxSp => []
  | .inrA => []
  | .dcrA => []
  | .cmc => []
  | .movBB => []
  | .movBC => []
  | .movBD => []
  | .movBE => []
  | .movBH => []
  | .movBL => []
  | .movBM => []
  | .movBA => []
  | .movCB => []
  | .movCC => []
  | .movCD => []
  | .movCE => []
  | .movCH => []
  | .movCL => []
  | .movCM => []
  | .movCA => []
  | .movDB => []
  | .movDC => []
  | .movDD => []
  | .movDE => []
  | .movDH => []
  | .movDL => []
  | .movDM => []
  | .movDA => []
  | .movEB => []
  | .movEC => []
  | .movED => []
  | .movEE => []
  | .movEH => []
  | .movEL => []
  | .movEM => []
  | .movEA => []
  | .movHB => []
  | .movHC => []
  | .movHD => []
  | .movHE => []
  | .movHH => []
  | .movHL => []
  | .movHM => []
  | .movHA => []
  | .movLB => []
  | .movLC => []
  | .movLD => []
  | .movLE => []
  | .movLH => []
  | .movLL => []
  | .movLM => []
  | .movLA => []
  | .movMB => []
  | .movMC => []
  | .movMD => []
  | .movME => []
  | .movMH => []
  | .movML => []
  | .hlt => []
  | .movMA => []
  | .movAB => []
  | .movAC => []
  | .movAD => []
  | .movAE => []
  | .movAH => []
  | .movAL => []
  | .movAM => []
  | .movAA => []
  | .addB => []
  | .addC => []
  | .addD => []
  | .addE => []
  | .addH => []
  | .addL => []
  | .addM => []
  | .addA => []
  | .adcB => []
  | .adcC => []
  | .adcD => []
  | .adcE => []
  | .adcH => []
  | .adcL => []
  | .adcM => []
  | .adcA => []
  | .subB => []
  | .subC => []
  | .subD => []
  | .subE => []
  | .subH => []
  | .subL => []
  | .subM => []
  | .subA => []
  | .sbbB => []
  | .sbbC => []
  | .sbbD => []
  | .sbbE => []
  | .sbbH => []
  | .sbbL => []
  | .sbbM => []
  | .sbbA => []
  | .anaB => []
  | .anaC => []
  | .anaD => []
  | .anaE => []
  | .anaH => []
  | .anaL => []
  | .anaM => []
  | .anaA => []
  | .xraB => []
  | .xraC => []
  | .xraD => []
  | .xraE => []
  | .xraH => []
  | .xraL => []
  | .xraM => []
  | .xraA => []
  | .oraB => []
  | .oraC => []
  | .oraD => []
  | .oraE => []
  | .oraH => []
  | .oraL => []
  | .oraM => []
  | .oraA => []
  | .cmpB => []
  | .cmpC => []
  | .cmpD => []
  | .cmpE => []
  | .cmpH => []
  | .cmpL => []
  | .cmpM => []
  | .cmpA => []
  | .rnz => []
  | .popB => []
  | .pushB => []
  | .rst0 => []
  | .rz => []
  | .ret => []
  | .rst1 => []
  | .rnc => []
  | .popD => []
  | .pushD => []
  | .rst2 => []
  | .rc => []
  | .retAliasD9 => []
  | .rst3 => []
  | .rpo => []
  | .popH => []
  | .xthl => []
  | .pushH => []
  | .rst4 => []
  | .rpe => []
  | .pchl => []
  | .xchg => []
  | .rst5 => []
  | .rp => []
  | .popPsw => []
  | .di => []
  | .pushPsw => []
  | .rst6 => []
  | .rm => []
  | .sphl => []
  | .ei => []
  | .rst7 => []

/-- The encoder: the bytes of an instruction, the opcode at the lowest address (R71). -/
def encode (i : Instr) : List Byte := i.opcode :: i.operandBytes

/-- The length of an instruction in bytes (R70). -/
def Instr.length (i : Instr) : Nat := (encode i).length

/-- The three bytes, first byte lowest, of an instruction whose bits are `w`: bits from `nbits` on are zero. -/
def tableBytes (nbits w : Nat) : List Byte :=
  let v := w % 2 ^ nbits
  [BitVec.ofNat 8 v, BitVec.ofNat 8 (v / 256), BitVec.ofNat 8 (v / 65536)]

/-- The instruction this decoder reads from a row's word of spec/opcode_table.json. -/
def decodeTableWord (nbits w : Nat) : Option Instr :=
  match decode (tableBytes nbits w) with
  | .ok (i, _) => some i
  | .error _ => none

end Sys2Proof
end

