-- ==== Sys2Proof/Config.lean ====
section
/-! DEFINITION. What is fixed for this hardware (spec/00_scope.md R9), what the environment supplies (R43), and the
values the spec leaves open, as opaque constants. -/

namespace Sys2Proof

/-! ## Parameters -/

/-- The two readings of AC after a subtraction (R121, D5). -/
inductive SubAcRule where
  | borrow
  | carryOfComplement
  deriving DecidableEq, Repr

/-- `SUB_AC_RULE` (R9, R121): this hardware takes `borrow` (log entry 4). -/
def Config.subAcRule : SubAcRule := .borrow

/-- `ROM_WRITE_PROTECT` (R9, R53): false, stores into 0x0000 to 0x1FFF succeed (log entry 3). -/
def Config.romWriteProtect : Bool := false

/-- `SOUND_EDGE_DETECT` (R9, R274): true, one event per rising edge (log entry 9). -/
def Config.soundEdgeDetect : Bool := true

/-- `IN1_RESET` (R9, R33). -/
def Config.in1Reset : Byte := 0x00

/-- `IN2_RESET` (R9, R34). -/
def Config.in2Reset : Byte := 0x00

/-- What a memory byte that nothing has written reads as (R32, R300; log entry 2). -/
def Config.resetByte : Byte := 0x00

/-- The number of memory cells (R50). -/
def Config.memorySize : Nat := 65536

/-- `CYCLES_PER_TICK` (R9, R280): the deterministic simulator's figure. -/
def Config.cyclesPerTick : Nat := 16667

/-- The cycle counter's width is `CYC_WIDTH` = 64 (R9, R30). -/
abbrev CycleCount := BitVec 64

/-! ## Free values -/

/-- `SOUND_ID_MAP` (R9, R274): the map from (port, bit) to a sound id in 0..9 is open; no rule of the block reads it
(log entry 9). -/
opaque Config.soundIdMap : Byte → Nat → Fin 10

/-- What the harness's output listener appends when C = 9 and no byte of memory is '$': the spec gives no string there
(R305, R306; log entry 15). -/
opaque Config.unterminatedString : Nat → List Byte

/-! ## The outside world -/

/-- The two input latches, by the port they are read at (R33, R34). -/
inductive InPort where
  | in1 | in2
  deriving DecidableEq, Repr

/-- One queued input event (R40): a port in {1, 2}, a bit in 0..7, pressed or released. -/
structure InputEvent where
  port    : InPort
  bit     : Fin 8
  pressed : Bool
  deriving DecidableEq, Repr

/-- The frame driver's vector flip-flop (R39). -/
inductive FrameVec where
  | mid | endOfFrame
  deriving DecidableEq, Repr

/-- An output event of the block (R19): a sound trigger (R274), or a snapshot of video RAM (R278). -/
inductive Event where
  | sound (port : Byte) (bit : Nat)
  | render (bytes : List Byte)
  deriving DecidableEq, Repr

/-- One direct change of the CPU's registers or of memory by the host or a listener (R302, R306). -/
inductive Poke where
  | setReg (r : Reg) (v : Byte)
  | setSp (v : Word)
  | setPc (v : Word)
  | setFlags (f : Flags)
  | writeMemory (a : Word) (v : Byte)
  deriving DecidableEq, Repr

/-- What a listener does with the CPU it is given (R306): pokes, and whether it ends the run. -/
structure ListenerResult where
  pokes      : List Poke
  terminates : Bool
  deriving DecidableEq, Repr, Inhabited

/-- One act of the outside world between two instructions (R5, R286, R302). Vector numbers and input events are raw
numbers here; WellFormed says which the host boundary accepts. -/
inductive HostAct where
  | enqueue (port bit : Nat) (pressed : Bool)
  | quit
  | interrupt (n : Nat)
  | poke (p : Poke)
  | reset
  deriving DecidableEq, Repr

/-- What the outside world does in one turn of the driver loop (R275): its acts before the Tick test, whether a Tick is
due (R280), and its acts after that test. -/
structure Boundary where
  acts    : List HostAct
  tickDue : Bool
  late    : List HostAct
  deriving DecidableEq, Repr

/-- How `TICK_SCHEDULE` (R280) is given: by the script, boundary by boundary, or by the deterministic simulator's count
of cycles. -/
inductive TickSchedule where
  | scripted
  | perCycles (n : Nat)
  deriving DecidableEq, Repr

/-- The deterministic simulator's schedule (R280). -/
def TickSchedule.simulator : TickSchedule := .perCycles Config.cyclesPerTick

/-- What IN or OUT is connected to (`IO_ATTACHMENT`, R231): the cabinet's bus, the diagnostic harness's listener (R305),
or any other listener (R306). -/
inductive Attachment where
  | cabinetBus
  | harness
  | custom
  deriving DecidableEq, Repr

end Sys2Proof
end

