-- ==== Sys2Proof/Machine/State.lean ====
section
/-! DEFINITION. The state of the machine (spec/10_state.md), the reasons a step can stop, and the state after reset (R42,
R300). -/

namespace Sys2Proof.Machine

/-- The seven 8-bit general registers (R20). -/
structure Regs where
  a : Byte
  b : Byte
  c : Byte
  d : Byte
  e : Byte
  h : Byte
  l : Byte
  deriving DecidableEq, Repr

/-- Memory (R32, R50): the bytes that differ from `Config.resetByte`, in strictly rising order of address. -/
abbrev Memory := List Host.Cell

/-- The cabinet's I/O bus (R33 to R37). -/
structure Bus where
  in1      : Byte
  in2      : Byte
  shiftH   : Byte
  shiftL   : Byte
  offset   : BitVec 3
  snd1Prev : Byte
  snd2Prev : Byte
  deriving DecidableEq, Repr

/-- The frame driver (R39 to R41). `lastBoundary` is a reading of CYC, the model's only clock (log entry 13). -/
structure Driver where
  nextVec      : FrameVec
  inq          : List InputEvent
  quit         : Bool
  lastBoundary : CycleCount
  budget       : Nat
  deriving DecidableEq, Repr

/-- What the block has put out so far, oldest first: its events (R19), and the harness's host output stream (R306). -/
structure Output where
  events  : List Event
  hostOut : List Byte
  deriving DecidableEq, Repr

/-- What a run takes as an argument (R43), as plain data: the attachments (R231), the tick schedule (R280), the outside
world's coming acts, one entry for each turn of the driver loop, and the counter that free values are applied to (log entries
10, 11, 14). -/
structure Env where
  input     : Attachment
  output    : Attachment
  schedule  : TickSchedule
  script    : List Boundary
  freeCount : Nat
  deriving DecidableEq, Repr

/-- The whole machine: CPU (R20 to R30), memory (R32), I/O bus, frame driver, output and environment. -/
structure State where
  regs      : Regs
  sp        : Word
  pc        : Word
  flags     : Flags
  ie        : Bool
  iePending : Bool
  cyc       : CycleCount
  mem       : Memory
  bus       : Bus
  driver    : Driver
  out       : Output
  env       : Env
  deriving DecidableEq, Repr

/-- The hardware raises no fault: no instruction, access or decoding can fail (R7, R19, R250), so nothing raises one and
there is no constructor. Safe: no run is cut short by one. -/
inductive Fault where
  deriving DecidableEq, Repr

/-- Why a step is refused. All but the first are refusals of the host boundary (R7). -/
inductive Refusal where
  /-- Raised by `exec` for an instruction that has no meaning yet; no arm does. Safe. -/
  | notModelled (mnemonic : String)
  /-- Raised by `step` when the run has ended: QUIT is set (R8, R282), or a listener has ended the run (R306), so the loop
  performs no further step. Safe: the machine stops where the spec's run has stopped. -/
  | runEnded
  /-- Raised at the host boundary by `interrupt(n)` with n outside 1..7 (R252, D21). Safe. -/
  | vectorOutOfRange (n : Nat)
  /-- Raised at the host boundary by `Enqueue` with a port outside {1, 2} or a bit above 7 (R273, D22). Safe. -/
  | inputOutOfRange (port bit : Nat)
  deriving DecidableEq, Repr

/-- What a step, a meaning or an act of the host answers. -/
abbrev Result := Host.Outcome State Fault Refusal

/-- The state after `Reset` (R42, R300). `env` and `out` are the model's own (log entries 10, 11, 14, 21). -/
def State.reset : State where
  regs := ⟨0x00, 0x00, 0x00, 0x00, 0x00, 0x00, 0x00⟩
  sp := 0x0000
  pc := 0x0000
  flags := ⟨false, false, false, false, false⟩
  ie := false
  iePending := false
  cyc := 0
  mem := []
  bus := ⟨Config.in1Reset, Config.in2Reset, 0x00, 0x00, 0, 0x00, 0x00⟩
  driver := ⟨.mid, [], false, 0, 0⟩
  out := ⟨[], []⟩
  env := ⟨.cabinetBus, .cabinetBus, .scripted, [], 0⟩

end Sys2Proof.Machine
end

