-- ==== Sys2Proof/Machine/Memory.lean ====
section
/-! DEFINITION. Memory as a list of cells in one canonical form: its read, its write and the form (spec/20_memory.md R50 to
R53). -/

namespace Sys2Proof.Machine

/-- The byte at an address; an address that is not listed reads as `Config.resetByte` (R52, R32). -/
def Memory.read : Memory → Nat → Byte
  | [], _ => Config.resetByte
  | (k, v) :: m, a => if k = a then v else Memory.read m a

/-- Put a cell in front, unless it holds what an unlisted address reads as. -/
def Memory.cons (a : Nat) (v : Byte) (m : Memory) : Memory :=
  if v = Config.resetByte then m else (a, v) :: m

/-- Store a byte, keeping the canonical form. -/
def Memory.store : Memory → Nat → Byte → Memory
  | [], a, v => Memory.cons a v []
  | (k, w) :: m, a, v =>
    if a < k then Memory.cons a v ((k, w) :: m)
    else if a = k then Memory.cons a v m
    else (k, w) :: Memory.store m a v

/-- Is the address in the region that `ROM_WRITE_PROTECT` would protect (R53, R57)? -/
def inRom (a : Nat) : Bool := decide (a < 0x2000)

/-- `MemWrite` of one byte (R53): with `ROM_WRITE_PROTECT` a store into the ROM region is dropped; this hardware has it
false. -/
def Memory.write (m : Memory) (a : Nat) (v : Byte) : Memory :=
  if Config.romWriteProtect && inRom a then m else m.store a v

/-- The canonical form from address `lo` on: rising addresses inside the address space, no listed reset byte. -/
def Memory.wfFrom (lo : Nat) : Memory → Bool
  | [] => true
  | (k, v) :: m =>
    decide (lo ≤ k) && decide (k < Config.memorySize) && decide (v ≠ Config.resetByte) && Memory.wfFrom (k + 1) m

/-- The canonical form of memory. -/
def Memory.wf (m : Memory) : Bool := Memory.wfFrom 0 m

end Sys2Proof.Machine
end

