-- ==== Sys2Proof/WellFormed.lean ====
section
/-! DEFINITION. What is well formed: every instruction term (its operand widths stand in the types, R74), and, of the raw
acts of the outside world, those the host boundary accepts (R252, R273). -/

namespace Sys2Proof

/-- Every `Instr` is well formed: its operand is a whole byte or a whole 16-bit word (R74) and all 256 opcodes are defined
(R79), so no term is left to refuse. -/
def Instr.wellFormed (_ : Instr) : Bool := true

/-- `interrupt(n)` accepts n in 1..7 (R252, D21). -/
def vectorWellFormed (n : Nat) : Bool := decide (1 ≤ n) && decide (n ≤ 7)

/-- `Enqueue` accepts port 1 or 2 and bit 0..7 (R273, D22). -/
def inputWellFormed (port bit : Nat) : Bool := (port == 1 || port == 2) && decide (bit < 8)

/-- An act the host boundary accepts. -/
def HostAct.wellFormed : HostAct → Bool
  | .enqueue port bit _ => inputWellFormed port bit
  | .quit => true
  | .interrupt n => vectorWellFormed n
  | .poke _ => true
  | .reset => true

/-- Every act of one turn of the driver loop is one the host boundary accepts. -/
def Boundary.wellFormed (b : Boundary) : Bool :=
  b.acts.all HostAct.wellFormed && b.late.all HostAct.wellFormed

end Sys2Proof
end

