-- ==== Sys2Proof/Machine/Ops.lean ====
section
/-! DEFINITION. The named operations over registers, memory, the stack and the instruction bytes (spec/00_scope.md R12, R13,
R18), taking an interrupt and returning from one (spec/60_exceptions.md R252, R259). -/

namespace Sys2Proof.Machine

/-! ## Bytes of a word (R10, R11) -/

/-- `v[15:8]`. -/
def highByte (v : Word) : Byte := v.extractLsb' 8 8

/-- `v[7:0]`. -/
def lowByte (v : Word) : Byte := v.extractLsb' 0 8

/-- `hi ++ lo`. -/
def joinBytes (hi lo : Byte) : Word := hi ++ lo

/-! ## Registers (R20, R21) -/

/-- The register a name stands for. -/
def Regs.get (r : Regs) : Reg → Byte
  | .a => r.a
  | .b => r.b
  | .c => r.c
  | .d => r.d
  | .e => r.e
  | .h => r.h
  | .l => r.l

/-- The registers with one of them written; the other six stay. -/
def Regs.set (r : Regs) (v : Byte) : Reg → Regs
  | .a => { r with a := v }
  | .b => { r with b := v }
  | .c => { r with c := v }
  | .d => { r with d := v }
  | .e => { r with e := v }
  | .h => { r with h := v }
  | .l => { r with l := v }

/-- The register a pair's high byte stands in: the first letter (R21). -/
def Pair.high : Pair → Reg
  | .bc => .b
  | .de => .d
  | .hl => .h

/-- The register a pair's low byte stands in (R21). -/
def Pair.low : Pair → Reg
  | .bc => .c
  | .de => .e
  | .hl => .l

/-- `BC`, `DE`, `HL`: the first letter is the high byte (R21). -/
def Regs.getPair (r : Regs) (p : Pair) : Word := joinBytes (r.get (Pair.high p)) (r.get (Pair.low p))

/-- Writing a pair writes both halves (R11). -/
def Regs.setPair (r : Regs) (p : Pair) (v : Word) : Regs :=
  (r.set (highByte v) (Pair.high p)).set (lowByte v) (Pair.low p)

/-- Read a register. -/
def State.reg (s : State) (r : Reg) : Byte := s.regs.get r

/-- Write a register. -/
def State.setReg (s : State) (r : Reg) (v : Byte) : State := { s with regs := s.regs.set v r }

/-- Read a pair (R21). -/
def State.pair (s : State) (p : Pair) : Word := s.regs.getPair p

/-- Write a pair: both halves (R11). -/
def State.setPair (s : State) (p : Pair) (v : Word) : State := { s with regs := s.regs.setPair p v }

/-- Write SP. -/
def State.setSp (s : State) (v : Word) : State := { s with sp := v }

/-- Write PC. -/
def State.setPc (s : State) (v : Word) : State := { s with pc := v }

/-- Write all five flags. -/
def State.setFlags (s : State) (f : Flags) : State := { s with flags := f }

/-- Write CY and leave the other four flags. -/
def State.setCy (s : State) (v : Bool) : State := { s with flags := { s.flags with cy := v } }

/-- Add an instruction's cycles to CYC, modulo 2^64 (R30, R83 step 6). -/
def State.charge (s : State) (cycles : Nat) : State := { s with cyc := s.cyc + BitVec.ofNat 64 cycles }

/-! ## Memory (R12, R52 to R56) -/

/-- `MemRead(addr, 1)` (R52). -/
def State.read8 (s : State) (a : Word) : Byte := s.mem.read a.toNat

/-- `MemWrite(addr, 1, v)` (R53). -/
def State.write8 (s : State) (a : Word) (v : Byte) : State := { s with mem := s.mem.write a.toNat v }

/-- `MemRead(addr, 2)`: the low byte at the lower address, the address modulo 2^16 (R54, R56). -/
def State.read16 (s : State) (a : Word) : Word := joinBytes (s.read8 (a + 1)) (s.read8 a)

/-- `MemWrite(addr, 2, v)` (R54, R56). -/
def State.write16 (s : State) (a : Word) (v : Word) : State :=
  (s.write8 a (lowByte v)).write8 (a + 1) (highByte v)

/-! ## Fetching (R13, R83) -/

/-- `Fetch8()` (R13). -/
def fetch8 (s : State) : Byte × State := (s.read8 s.pc, s.setPc (s.pc + 1))

/-- `Fetch16()`: low byte, then high byte (R13). -/
def fetch16 (s : State) : Word × State :=
  let (lo, s) := fetch8 s
  let (hi, s) := fetch8 s
  (joinBytes hi lo, s)

/-- Steps 2 to 4 of `run_one` (R83): the opcode, then the operand bytes its format has; PC ends past the instruction. -/
def fetchInstr (s : State) : Instr × State :=
  let (op, s) := fetch8 s
  match formOf op with
  | .f1 i => (i, s)
  | .f2 mk => let (v, s) := fetch8 s; (mk v, s)
  | .f3 mk => let (w, s) := fetch16 s; (mk w, s)

/-- The bytes from `a` on, addresses modulo 2^16. -/
def State.writeBytes (s : State) (a : Word) : List Byte → State
  | [] => s
  | v :: vs => (s.write8 a v).writeBytes (a + 1) vs

/-! ## The stack (R18) -/

/-- `Push16(v)`: high byte at SP - 1, low byte at SP - 2, SP lowered by 2, all modulo 2^16 (R18). -/
def push16 (v : Word) (s : State) : State :=
  (((s.write8 (s.sp - 1) (highByte v)).write8 (s.sp - 2) (lowByte v))).setSp (s.sp - 2)

/-- `Pop16()`: the word at SP, and the state with SP raised by 2 (R18). -/
def pop16 (s : State) : Word × State := (s.read16 s.sp, s.setSp (s.sp + 2))

/-- `PC <- Pop16()`: RET, and so the return from an interrupt handler (R195, R259): it does not touch IE. -/
def returnFromCall (s : State) : State :=
  let (v, s) := pop16 s
  s.setPc v

/-- `Push16(PC); PC <- target` (R193, R197). -/
def callTo (target : Word) (s : State) : State := (push16 s.pc s).setPc target

/-! ## Interrupts (R252, R253) -/

/-- The restart address `8 * n` (R59, R74). -/
def vectorAddress (n : Nat) : Word := BitVec.ofNat 16 (8 * n)

/-- Taking an interrupt: push the current PC, go to `8 * n`, clear IE; nothing else is saved or changed, and no cycle is
charged (R252, R258). With IE clear the request is lost. -/
def takeInterrupt (n : Nat) (s : State) : State :=
  if s.ie then { callTo (vectorAddress n) s with ie := false } else s

/-- `interrupt(n)` at the host boundary: n outside 1..7 is refused (R252, D21). -/
def interrupt (n : Nat) (s : State) : Result :=
  if vectorWellFormed n then .next (takeInterrupt n s) else .refused (.vectorOutOfRange n)

/-- Step 1 of `run_one`: a pending enable becomes IE (R83, R253). -/
def collapsePending (s : State) : State :=
  if s.iePending then { s with iePending := false, ie := true } else s

end Sys2Proof.Machine
end

