-- ==== Sys2Proof/Machine/Bus.lean ====
section
/-! DEFINITION. The cabinet's I/O bus: port reads, port writes, sound triggers and input events (spec/60_exceptions.md R262 to
R274). -/

namespace Sys2Proof.Machine

/-- The shift result: `(SHIFT_H ++ SHIFT_L) >> (8 - OFFSET)`, cut to 8 bits (R265). -/
def Bus.shiftResult (b : Bus) : Byte := ((joinBytes b.shiftH b.shiftL) >>> (8 - b.offset.toNat)).setWidth 8

/-- `PortRead(p)`: every port but 1, 2 and 3 reads 0x00 (R262, R266). -/
def Bus.read (b : Bus) (p : Byte) : Byte :=
  if p = 0x01 then b.in1
  else if p = 0x02 then b.in2
  else if p = 0x03 then b.shiftResult
  else 0x00

/-- `Trig(v, prev, i)` (R274). -/
def soundTrigger (v prev : Byte) (i : Nat) : Bool :=
  v.getLsbD i && !(Config.soundEdgeDetect && prev.getLsbD i)

/-- The sound events of one write: the trigger bits 0 to `n - 1` of the port, in ascending order (R269, R270). -/
def soundEvents (port v prev : Byte) (n : Nat) : List Event :=
  ((List.range n).filter (soundTrigger v prev)).map (Event.sound port)

/-- The bus after `PortWrite(p, v)` (R267 to R272). -/
def Bus.write (b : Bus) (p v : Byte) : Bus :=
  if p = 0x02 then { b with offset := v.extractLsb' 0 3 }
  else if p = 0x03 then { b with snd1Prev := v }
  else if p = 0x04 then { b with shiftL := b.shiftH, shiftH := v }
  else if p = 0x05 then { b with snd2Prev := v }
  else b

/-- The events `PortWrite(p, v)` emits (R269, R270). -/
def Bus.writeEvents (b : Bus) (p v : Byte) : List Event :=
  if p = 0x03 then soundEvents p v b.snd1Prev 4
  else if p = 0x05 then soundEvents p v b.snd2Prev 5
  else []

/-- Append events to the output trace (R19). -/
def State.emit (s : State) (es : List Event) : State := { s with out := { s.out with events := s.out.events ++ es } }

/-- `PortRead(p)` of the machine. -/
def portRead (s : State) (p : Byte) : Byte := s.bus.read p

/-- `PortWrite(p, v)` of the machine. -/
def portWrite (s : State) (p v : Byte) : State :=
  { s with bus := s.bus.write p v }.emit (s.bus.writeEvents p v)

/-- Set or clear one bit of a latch (R273). -/
def setLatchBit (latch : Byte) (i : Fin 8) (pressed : Bool) : Byte :=
  let one : Byte := 1#8 <<< i.val
  if pressed then latch ||| one else latch &&& ~~~one

/-- `on_input(port, bit, pressed)` (R273). -/
def Bus.onInput (b : Bus) (e : InputEvent) : Bus :=
  match e.port with
  | .in1 => { b with in1 := setLatchBit b.in1 e.bit e.pressed }
  | .in2 => { b with in2 := setLatchBit b.in2 e.bit e.pressed }

/-- The sound id an event plays, by the open map `SOUND_ID_MAP` (R274); no rule of the block reads it. -/
def Event.soundId : Event → Option (Fin 10)
  | .sound port i => some (Config.soundIdMap port i)
  | .render _ => none

end Sys2Proof.Machine
end

