-- ==== Sys2Proof/Machine/Listener.lean ====
section
/-! DEFINITION. Listeners on IN and OUT: pokes, the diagnostic harness's two listeners, and any other listener as an opaque
constant (spec/70_reset_and_hazards.md R302, R305, R306). -/

namespace Sys2Proof

/-- What an input listener other than the harness's does with the CPU it is called with (R306): open, a free value for each
call (log entry 14). -/
opaque Config.inputListener : Nat → Machine.State → ListenerResult

/-- What an output listener other than the harness's does (R306): open, a free value for each call (log entry 14). -/
opaque Config.outputListener : Nat → Machine.State → ListenerResult

end Sys2Proof

namespace Sys2Proof.Machine

/-- One poke: `set_pc`, `write_memory`, or a direct register write (R302). -/
def applyPoke (s : State) : Poke → State
  | .setReg r v => s.setReg r v
  | .setSp v => s.setSp v
  | .setPc v => s.setPc v
  | .setFlags f => s.setFlags f
  | .writeMemory a v => s.write8 a v

/-- Pokes in order. -/
def applyPokes (s : State) (ps : List Poke) : State := ps.foldl applyPoke s

/-- End the run: no further step is performed (R8, R282, R306). -/
def endRun (s : State) : State := { s with driver := { s.driver with quit := true } }

/-- Take the next free value's index. -/
def useFree (s : State) : State := { s with env := { s.env with freeCount := s.env.freeCount + 1 } }

/-- The effect of a listener's answer. -/
def applyListener (r : ListenerResult) (s : State) : State :=
  let t := applyPokes (useFree s) r.pokes
  if r.terminates then endRun t else t

/-- `'$'`, the end of a BDOS string (R305). -/
def dollar : Byte := 0x24

/-- The bytes from address `a` on, up to but not including the first '$', within `n` bytes; `none` where there is no '$'
(R306). -/
def dollarString (s : State) : Nat → Word → Option (List Byte)
  | 0, _ => none
  | n + 1, a =>
    if s.read8 a = dollar then some []
    else (dollarString s n (a + 1)).map (s.read8 a :: ·)

/-- Append to the harness's host output stream (R306). -/
def State.print (s : State) (bs : List Byte) : State := { s with out := { s.out with hostOut := s.out.hostOut ++ bs } }

/-- The harness's output listener (R305): C = 2 prints the character in E, C = 9 the string at DE; a pure observer
(R306). A string with no '$' in all of memory prints a free value (log entry 15). -/
def harnessOutput (s : State) : State :=
  if s.reg .c = 0x02 then s.print [s.reg .e]
  else if s.reg .c = 0x09 then
    match dollarString s Config.memorySize (s.pair .de) with
    | some bs => s.print bs
    | none => (useFree s).print (Config.unterminatedString s.env.freeCount)
  else s

end Sys2Proof.Machine
end

