-- ==== Sys2Proof/Machine/HostOps.lean ====
section
/-! DEFINITION. The host's operations, between two instructions: Reset, load_program, poke and peek, boot, and one act of the
outside world (spec/70_reset_and_hazards.md R300 to R306, spec/60_exceptions.md R273, R279, R286). -/

namespace Sys2Proof.Machine

/-- `Reset()` (R300). The output trace so far and the run's arguments are no state of the machine and stay (log entry
21). -/
def resetMachine (s : State) : State := { State.reset with out := s.out, env := s.env }

/-- `load_program(bytes, origin)`: bytes past 0xFFFF are dropped, nothing else changes (R301). -/
def loadProgram (bytes : List Byte) (origin : Nat) (s : State) : State :=
  match bytes with
  | [] => s
  | v :: vs =>
    loadProgram vs (origin + 1)
      (if origin < Config.memorySize then { s with mem := s.mem.write origin v } else s)

/-- `set_pc(addr)` (R302). -/
def setPcByHost (a : Word) (s : State) : State := applyPoke s (.setPc a)

/-- `read_memory(addr)` (R302). -/
def readMemory (a : Word) (s : State) : Byte := s.read8 a

/-- `write_memory(addr, byte)` (R302). -/
def writeMemory (a : Word) (v : Byte) (s : State) : State := applyPoke s (.writeMemory a v)

/-- Install what IN and OUT are connected to, before the first instruction (R43, R231). -/
def attach (input output : Attachment) (s : State) : State := { s with env := { s.env with input := input, output := output } }

/-- The cabinet's boot: Reset, the image at 0, no listener (R303). -/
def cabinetBoot (image : List Byte) : State := loadProgram image 0x0000 State.reset

/-- The harness's boot: the test ROM at 0x0100, IN at 0x0000, OUT at 0x0005, RET at 0x0007, PC = 0x0100 (R305). -/
def harnessBoot (rom : List Byte) : State :=
  let s := loadProgram rom 0x0100 (attach .harness .harness State.reset)
  let s := writeMemory 0x0007 0xC9 (writeMemory 0x0005 0xD3 (writeMemory 0x0000 0xDB s))
  setPcByHost 0x0100 s

/-- The input event of a raw port, bit and level, where they are in range (R273). -/
def inputEventOf (port bit : Nat) (pressed : Bool) : Option InputEvent :=
  if inputWellFormed port bit then
    some { port := if port = 1 then .in1 else .in2, bit := Fin.ofNat 8 bit, pressed := pressed }
  else none

/-- `Enqueue(port, bit, pressed)`: append one event to INQ, or refuse it at the host boundary (R273, R279). -/
def enqueue (port bit : Nat) (pressed : Bool) (s : State) : Result :=
  match inputEventOf port bit pressed with
  | some e => .next { s with driver := { s.driver with inq := s.driver.inq ++ [e] } }
  | none => .refused (.inputOutOfRange port bit)

/-- One act of the outside world (R5, R286, R302). -/
def applyAct (s : State) : HostAct → Result
  | .enqueue port bit pressed => enqueue port bit pressed s
  | .quit => .next (endRun s)
  | .interrupt n => interrupt n s
  | .poke p => .next (applyPoke s p)
  | .reset => .next (resetMachine s)

/-- Acts in order; the first refused one stops (R257). DESIGN CHOICE: every act of the list takes effect, those listed after
a Quit in the same turn too (a direct `interrupt(n)`, a poke, an `Enqueue`, a Reset). R8, R40 and R282 withhold only the
driver's Tick and its in-flight interrupt once QUIT is set, and do not speak of the host's own acts (log entry 29). -/
def applyActs (s : State) : List HostAct → Result
  | [] => .next s
  | a :: as =>
    match applyAct s a with
    | .next t => applyActs t as
    | .fault f => .fault f
    | .refused r => .refused r

end Sys2Proof.Machine
end

