-- ==== Sys2Proof/Machine/Frame.lean ====
section
/-! DEFINITION. The frame driver: Tick, when it is due, and what follows `run_one` in one turn of the driver loop
(spec/60_exceptions.md R275 to R283). -/

namespace Sys2Proof.Machine

/-- The first address of video RAM (R57). -/
def vramBase : Nat := 0x2400

/-- The size of video RAM: 7,168 bytes (R57, R65). -/
def vramSize : Nat := 7168

/-- `Mem[0x2400..0x3FFF]` (R65, R278). -/
def vramBytes (m : Memory) : List Byte := (List.range vramSize).map fun i => m.read (vramBase + i)

/-- Toggle the flip-flop (R39, R276). -/
def FrameVec.other : FrameVec → FrameVec
  | .mid => .endOfFrame
  | .endOfFrame => .mid

/-- The vector a flip-flop value selects (R276, R251). -/
def FrameVec.number : FrameVec → Nat
  | .mid => 1
  | .endOfFrame => 2

/-- Step 2 of Tick: an end-of-frame Tick emits a snapshot of video RAM (R278). -/
def renderIfEnd (sel : FrameVec) (s : State) : State :=
  match sel with
  | .mid => s
  | .endOfFrame => s.emit [.render (vramBytes s.mem)]

/-- Step 4 of Tick: every queued event in arrival order, then an empty queue (R279). -/
def drainInputs (s : State) : State :=
  { s with bus := s.driver.inq.foldl Bus.onInput s.bus, driver := { s.driver with inq := [] } }

/-- `Tick()` (R276). -/
def tick (s : State) : State :=
  let sel := s.driver.nextVec
  let s := { s with driver := { s.driver with nextVec := FrameVec.other sel } }
  let s := renderIfEnd sel s
  let s := takeInterrupt (FrameVec.number sel) s
  let s := drainInputs s
  { s with driver := { s.driver with lastBoundary := s.cyc } }

/-- The frame driver runs in the cabinet configuration only (R231, R305; log entry 16). -/
def frameDriverRuns (s : State) : Bool := s.env.input == .cabinetBus && s.env.output == .cabinetBus

/-- `TickDue()` (R280): as the script says, or when CYC has advanced by `n` since the last Tick. -/
def tickIsDue (b : Boundary) (s : State) : Bool :=
  match s.env.schedule with
  | .scripted => b.tickDue
  | .perCycles n => decide (n ≤ (s.cyc - s.driver.lastBoundary).toNat)

/-- A Reset stands among the acts before this turn's Tick test. No instruction has run since it, and R275 says that a Tick
never occurs before the first instruction after reset. -/
def resetThisTurn (b : Boundary) : Bool := b.acts.contains .reset

/-- The last line of the loop of R275: a Tick if QUIT is clear and one is due; none where the machine was reset after this
turn's `run_one`, because one `run_one` precedes each test. -/
def tickIfDue (b : Boundary) (s : State) : State :=
  if frameDriverRuns s && !resetThisTurn b && !s.driver.quit && tickIsDue b s then tick s else s

/-- The loop's second line: `BUDGET <- BUDGET + cyc` (R275, R281). -/
def addBudget (cycles : Nat) (s : State) : State :=
  if frameDriverRuns s then { s with driver := { s.driver with budget := s.driver.budget + cycles } } else s

/-- What the outside world does in this turn of the loop: the script's first entry, or nothing where the script is
empty. -/
def nextBoundary (s : State) : Boundary := s.env.script.headD ⟨[], false, []⟩

/-- The script without this turn's entry. -/
def dropBoundary (s : State) : State := { s with env := { s.env with script := s.env.script.tail } }

/-- The rest of one turn of the driver loop, after a `run_one` that returned `cycles` (R275): the budget, the outside
world's acts, the Tick test, and the acts after it (log entry 11). Acts listed after a Quit take effect too: the model's
choice (log entry 29). -/
def closeTurn (cycles : Nat) (s : State) : Result :=
  let b := nextBoundary s
  match applyActs (dropBoundary (addBudget cycles s)) b.acts with
  | .next t => applyActs (tickIfDue b t) b.late
  | .fault f => .fault f
  | .refused r => .refused r

end Sys2Proof.Machine
end

