-- ==== Sys2Proof/Machine/Operands.lean ====
section
/-! DEFINITION. The operand forms (spec/00_scope.md R14 to R16, spec/30_encoding.md R75). Immediate, absolute, port and restart
operands are arguments of the instruction; the stack's are `push16` and `pop16`. -/

namespace Sys2Proof.Machine

/-- The address in HL. -/
def State.hl (s : State) : Word := s.pair .hl

/-- `R8Read(c)`: a register, or the memory byte at HL (R14). -/
def readR8 (s : State) : R8 → Byte
  | .reg r => s.reg r
  | .m => s.read8 s.hl

/-- `R8Write(c, v)` (R14). -/
def writeR8 (s : State) (x : R8) (v : Byte) : State :=
  match x with
  | .reg r => s.setReg r v
  | .m => s.write8 s.hl v

/-- `RPRead(p)` in its SP variant (R15). -/
def readRP (s : State) : RP → Word
  | .pair p => s.pair p
  | .sp => s.sp

/-- `RPWrite(p, v)` in its SP variant (R15). -/
def writeRP (s : State) (p : RP) (v : Word) : State :=
  match p with
  | .pair p => s.setPair p v
  | .sp => s.setSp v

/-- The address LDAX and STAX use (R111, R112). -/
def addrOf (s : State) : AddrPair → Word
  | .bc => s.pair .bc
  | .de => s.pair .de

/-- `Cond(c)` (R16). -/
def condHolds (f : Flags) : Cond → Bool
  | .nz => !f.z
  | .z => f.z
  | .nc => !f.cy
  | .c => f.cy
  | .po => !f.p
  | .pe => f.p
  | .p => !f.s
  | .m => f.s

/-- The cycles of an instruction that costs more when its operand is M. -/
def cyclesFor (x : R8) (register memory : Nat) : Nat :=
  match x with
  | .reg _ => register
  | .m => memory

end Sys2Proof.Machine
end

