-- ==== Sys2Proof/Machine/Flags.lean ====
section
/-! DEFINITION. Every flag computation: parity and SetZSP (spec/00_scope.md R17), the packed status byte (spec/10_state.md R25,
R26), the add and subtract cores (spec/41_arithmetic.md R120, R121), increment and decrement (R130, R131), DAA (R135) and the
logic group (spec/42_logic.md R150 to R156). -/

namespace Sys2Proof.Machine

/-- A flag as the number the spec adds or subtracts. -/
def bit (v : Bool) : Nat := if v then 1 else 0

/-- `v[3:0]` as a number. -/
def lowNibble (v : Byte) : Nat := v.toNat % 16

/-- `v[7:4]` as a number. -/
def highNibble (v : Byte) : Nat := v.toNat / 16

/-- The number of 1 bits of a byte. -/
def popCount (v : Byte) : Nat := (List.range 8).countP v.getLsbD

/-- `Parity(v)` (R17). -/
def parity (v : Byte) : Bool := popCount v % 2 == 0

/-- `SetZSP(v)`, with AC and CY given (R17). -/
def flagsOf (v : Byte) (ac cy : Bool) : Flags :=
  { s := v.getLsbD 7, z := v == 0x00, ac := ac, p := parity v, cy := cy }

/-- `AddCore(a, b, cin)`: the result and the flags (R120). -/
def addCore (a b : Byte) (cin : Bool) : Byte × Flags :=
  let sum := a.toNat + b.toNat + bit cin
  let res := BitVec.ofNat 8 sum
  (res, flagsOf res (decide (lowNibble a + lowNibble b + bit cin > 15)) (decide (sum > 255)))

/-- AC of a subtraction, by `SUB_AC_RULE` (R121, D5). -/
def subAc (a b : Byte) (bin : Bool) : Bool :=
  match Config.subAcRule with
  | .borrow => decide (lowNibble a < lowNibble b + bit bin)
  | .carryOfComplement => decide (lowNibble a + (15 - lowNibble b) + (1 - bit bin) > 15)

/-- `SubCore(a, b, bin)`: the result and the flags (R121). -/
def subCore (a b : Byte) (bin : Bool) : Byte × Flags :=
  let diff : Int := (a.toNat : Int) - b.toNat - bit bin
  let res := BitVec.ofInt 8 diff
  (res, flagsOf res (subAc a b bin) (decide (diff < 0)))

/-- INR: the result and the flags; CY stays (R130). -/
def incCore (v : Byte) (f : Flags) : Byte × Flags :=
  let res := v + 1
  (res, flagsOf res (lowNibble v == 15) f.cy)

/-- DCR: the result and the flags; CY stays; AC by `SUB_AC_RULE` (R131). -/
def decCore (v : Byte) (f : Flags) : Byte × Flags :=
  let res := v - 1
  (res, flagsOf res (subAc v 1 false) f.cy)

/-- ANA, ANI: the result and the flags; AC is bit 3 of the OR of the operands (R151, R152). -/
def andCore (a b : Byte) : Byte × Flags := (a &&& b, flagsOf (a &&& b) ((a ||| b).getLsbD 3) false)

/-- XRA, XRI (R153, R154). -/
def xorCore (a b : Byte) : Byte × Flags := (a ^^^ b, flagsOf (a ^^^ b) false false)

/-- ORA, ORI (R155, R156). -/
def orCore (a b : Byte) : Byte × Flags := (a ||| b, flagsOf (a ||| b) false false)

/-- DAA in its two sequential steps: the result and the flags (R135). -/
def daaCore (a : Byte) (f : Flags) : Byte × Flags :=
  -- step 1
  let low := decide (lowNibble a > 9) || f.ac
  let s1 := a.toNat + (if low then 0x06 else 0)
  let ac := low && decide (lowNibble a + 6 > 15)
  let cy1 := f.cy || decide (s1 > 0xFF)
  let a1 := BitVec.ofNat 8 s1
  -- step 2, on the value after step 1
  let high := decide (highNibble a1 > 9) || cy1
  let s2 := a1.toNat + (if high then 0x60 else 0)
  let cy2 := cy1 || decide (s2 > 0xFF)
  let a2 := BitVec.ofNat 8 s2
  (a2, flagsOf a2 ac cy2)

/-- `PSWByte()`: S Z 0 AC 0 P 1 CY (R25). -/
def pswByte (f : Flags) : Byte :=
  BitVec.ofBool f.s ++ BitVec.ofBool f.z ++ 0#1 ++ BitVec.ofBool f.ac ++ 0#1 ++ BitVec.ofBool f.p ++ 1#1 ++
    BitVec.ofBool f.cy

/-- `SetPSW(b)`: bits 5, 3 and 1 are ignored (R26). -/
def flagsOfPsw (b : Byte) : Flags :=
  { s := b.getLsbD 7, z := b.getLsbD 6, ac := b.getLsbD 4, p := b.getLsbD 2, cy := b.getLsbD 0 }

/-- Write a computed result to A and its flags to F (R120, R150). -/
def setAccumulator (r : Byte × Flags) (s : State) : State := (s.setReg .a r.1).setFlags r.2

end Sys2Proof.Machine
end

