-- ==== Sys2Proof/Machine/Arith.lean ====
section
/-! DEFINITION. The meanings of arithmetic (spec/41_arithmetic.md R120 to R135).
Each operation is said once; each opcode then has a definition of its own, which is that operation at its operands. A
meaning runs after the fetch: PC is already past the instruction (R13, R83). -/

namespace Sys2Proof.Machine

/-- `ADD` (R122). -/
def addReg (x : R8) (s : State) : State :=
  (setAccumulator (addCore (s.reg .a) (readR8 s x) false) s).charge (cyclesFor x 4 7)

/-- `ADC` (R124). -/
def addCarryReg (x : R8) (s : State) : State :=
  (setAccumulator (addCore (s.reg .a) (readR8 s x) s.flags.cy) s).charge (cyclesFor x 4 7)

/-- `SUB` (R126). -/
def subReg (x : R8) (s : State) : State :=
  (setAccumulator (subCore (s.reg .a) (readR8 s x) false) s).charge (cyclesFor x 4 7)

/-- `SBB` (R128). -/
def subBorrowReg (x : R8) (s : State) : State :=
  (setAccumulator (subCore (s.reg .a) (readR8 s x) s.flags.cy) s).charge (cyclesFor x 4 7)

/-- `INR`: the operand is read, then written (R130). -/
def increment (x : R8) (s : State) : State :=
  let (v, f) := incCore (readR8 s x) s.flags
  ((writeR8 s x v).setFlags f).charge (cyclesFor x 5 10)

/-- `DCR` (R131). -/
def decrement (x : R8) (s : State) : State :=
  let (v, f) := decCore (readR8 s x) s.flags
  ((writeR8 s x v).setFlags f).charge (cyclesFor x 5 10)

/-- `INX`: no flag is written (R132). -/
def incrementPair (p : RP) (s : State) : State := (writeRP s p (readRP s p + 1)).charge 5

/-- `DCX`: no flag is written (R133). -/
def decrementPair (p : RP) (s : State) : State := (writeRP s p (readRP s p - 1)).charge 5

/-- `DAD`: only CY is written (R134). -/
def addPair (p : RP) (s : State) : State :=
  let sum := s.hl.toNat + (readRP s p).toNat
  ((s.setPair .hl (BitVec.ofNat 16 sum)).setCy (decide (sum > 0xFFFF))).charge 10

/-! ## One meaning for each opcode -/

/-- `ADD B`, 80 (R122). -/
def execAddB (s : State) : Result := .next (addReg (.reg .b) s)

/-- `ADD C`, 81 (R122). -/
def execAddC (s : State) : Result := .next (addReg (.reg .c) s)

/-- `ADD D`, 82 (R122). -/
def execAddD (s : State) : Result := .next (addReg (.reg .d) s)

/-- `ADD E`, 83 (R122). -/
def execAddE (s : State) : Result := .next (addReg (.reg .e) s)

/-- `ADD H`, 84 (R122). -/
def execAddH (s : State) : Result := .next (addReg (.reg .h) s)

/-- `ADD L`, 85 (R122). -/
def execAddL (s : State) : Result := .next (addReg (.reg .l) s)

/-- `ADD M`, 86 (R122). -/
def execAddM (s : State) : Result := .next (addReg .m s)

/-- `ADD A`, 87 (R122). -/
def execAddA (s : State) : Result := .next (addReg (.reg .a) s)

/-- `ADI d8`, C6 (R123). -/
def execAdi (v : Byte) (s : State) : Result := .next ((setAccumulator (addCore (s.reg .a) v false) s).charge 7)

/-- `ADC B`, 88 (R124). -/
def execAdcB (s : State) : Result := .next (addCarryReg (.reg .b) s)

/-- `ADC C`, 89 (R124). -/
def execAdcC (s : State) : Result := .next (addCarryReg (.reg .c) s)

/-- `ADC D`, 8A (R124). -/
def execAdcD (s : State) : Result := .next (addCarryReg (.reg .d) s)

/-- `ADC E`, 8B (R124). -/
def execAdcE (s : State) : Result := .next (addCarryReg (.reg .e) s)

/-- `ADC H`, 8C (R124). -/
def execAdcH (s : State) : Result := .next (addCarryReg (.reg .h) s)

/-- `ADC L`, 8D (R124). -/
def execAdcL (s : State) : Result := .next (addCarryReg (.reg .l) s)

/-- `ADC M`, 8E (R124). -/
def execAdcM (s : State) : Result := .next (addCarryReg .m s)

/-- `ADC A`, 8F (R124). -/
def execAdcA (s : State) : Result := .next (addCarryReg (.reg .a) s)

/-- `ACI d8`, CE (R125). -/
def execAci (v : Byte) (s : State) : Result := .next ((setAccumulator (addCore (s.reg .a) v s.flags.cy) s).charge 7)

/-- `SUB B`, 90 (R126). -/
def execSubB (s : State) : Result := .next (subReg (.reg .b) s)

/-- `SUB C`, 91 (R126). -/
def execSubC (s : State) : Result := .next (subReg (.reg .c) s)

/-- `SUB D`, 92 (R126). -/
def execSubD (s : State) : Result := .next (subReg (.reg .d) s)

/-- `SUB E`, 93 (R126). -/
def execSubE (s : State) : Result := .next (subReg (.reg .e) s)

/-- `SUB H`, 94 (R126). -/
def execSubH (s : State) : Result := .next (subReg (.reg .h) s)

/-- `SUB L`, 95 (R126). -/
def execSubL (s : State) : Result := .next (subReg (.reg .l) s)

/-- `SUB M`, 96 (R126). -/
def execSubM (s : State) : Result := .next (subReg .m s)

/-- `SUB A`, 97 (R126). -/
def execSubA (s : State) : Result := .next (subReg (.reg .a) s)

/-- `SUI d8`, D6 (R127). -/
def execSui (v : Byte) (s : State) : Result := .next ((setAccumulator (subCore (s.reg .a) v false) s).charge 7)

/-- `SBB B`, 98 (R128). -/
def execSbbB (s : State) : Result := .next (subBorrowReg (.reg .b) s)

/-- `SBB C`, 99 (R128). -/
def execSbbC (s : State) : Result := .next (subBorrowReg (.reg .c) s)

/-- `SBB D`, 9A (R128). -/
def execSbbD (s : State) : Result := .next (subBorrowReg (.reg .d) s)

/-- `SBB E`, 9B (R128). -/
def execSbbE (s : State) : Result := .next (subBorrowReg (.reg .e) s)

/-- `SBB H`, 9C (R128). -/
def execSbbH (s : State) : Result := .next (subBorrowReg (.reg .h) s)

/-- `SBB L`, 9D (R128). -/
def execSbbL (s : State) : Result := .next (subBorrowReg (.reg .l) s)

/-- `SBB M`, 9E (R128). -/
def execSbbM (s : State) : Result := .next (subBorrowReg .m s)

/-- `SBB A`, 9F (R128). -/
def execSbbA (s : State) : Result := .next (subBorrowReg (.reg .a) s)

/-- `SBI d8`, DE (R129). -/
def execSbi (v : Byte) (s : State) : Result := .next ((setAccumulator (subCore (s.reg .a) v s.flags.cy) s).charge 7)

/-- `INR B`, 04 (R130). -/
def execInrB (s : State) : Result := .next (increment (.reg .b) s)

/-- `INR C`, 0C (R130). -/
def execInrC (s : State) : Result := .next (increment (.reg .c) s)

/-- `INR D`, 14 (R130). -/
def execInrD (s : State) : Result := .next (increment (.reg .d) s)

/-- `INR E`, 1C (R130). -/
def execInrE (s : State) : Result := .next (increment (.reg .e) s)

/-- `INR H`, 24 (R130). -/
def execInrH (s : State) : Result := .next (increment (.reg .h) s)

/-- `INR L`, 2C (R130). -/
def execInrL (s : State) : Result := .next (increment (.reg .l) s)

/-- `INR M`, 34 (R130). -/
def execInrM (s : State) : Result := .next (increment .m s)

/-- `INR A`, 3C (R130). -/
def execInrA (s : State) : Result := .next (increment (.reg .a) s)

/-- `DCR B`, 05 (R131). -/
def execDcrB (s : State) : Result := .next (decrement (.reg .b) s)

/-- `DCR C`, 0D (R131). -/
def execDcrC (s : State) : Result := .next (decrement (.reg .c) s)

/-- `DCR D`, 15 (R131). -/
def execDcrD (s : State) : Result := .next (decrement (.reg .d) s)

/-- `DCR E`, 1D (R131). -/
def execDcrE (s : State) : Result := .next (decrement (.reg .e) s)

/-- `DCR H`, 25 (R131). -/
def execDcrH (s : State) : Result := .next (decrement (.reg .h) s)

/-- `DCR L`, 2D (R131). -/
def execDcrL (s : State) : Result := .next (decrement (.reg .l) s)

/-- `DCR M`, 35 (R131). -/
def execDcrM (s : State) : Result := .next (decrement .m s)

/-- `DCR A`, 3D (R131). -/
def execDcrA (s : State) : Result := .next (decrement (.reg .a) s)

/-- `INX B`, 03 (R132). -/
def execInxB (s : State) : Result := .next (incrementPair (.pair .bc) s)

/-- `INX D`, 13 (R132). -/
def execInxD (s : State) : Result := .next (incrementPair (.pair .de) s)

/-- `INX H`, 23 (R132). -/
def execInxH (s : State) : Result := .next (incrementPair (.pair .hl) s)

/-- `INX SP`, 33 (R132). -/
def execInxSp (s : State) : Result := .next (incrementPair .sp s)

/-- `DCX B`, 0B (R133). -/
def execDcxB (s : State) : Result := .next (decrementPair (.pair .bc) s)

/-- `DCX D`, 1B (R133). -/
def execDcxD (s : State) : Result := .next (decrementPair (.pair .de) s)

/-- `DCX H`, 2B (R133). -/
def execDcxH (s : State) : Result := .next (decrementPair (.pair .hl) s)

/-- `DCX SP`, 3B (R133). -/
def execDcxSp (s : State) : Result := .next (decrementPair .sp s)

/-- `DAD B`, 09 (R134). -/
def execDadB (s : State) : Result := .next (addPair (.pair .bc) s)

/-- `DAD D`, 19 (R134). -/
def execDadD (s : State) : Result := .next (addPair (.pair .de) s)

/-- `DAD H`, 29 (R134). -/
def execDadH (s : State) : Result := .next (addPair (.pair .hl) s)

/-- `DAD SP`, 39 (R134). -/
def execDadSp (s : State) : Result := .next (addPair .sp s)

/-- `DAA`, 27 (R135). -/
def execDaa (s : State) : Result := .next ((setAccumulator (daaCore (s.reg .a) s.flags) s).charge 4)

end Sys2Proof.Machine
end

