-- ==== Sys2Proof/Machine/Branch.lean ====
section
/-! DEFINITION. The meanings of branch, call, return, restart (spec/45_branch.md R190 to R197). PC is the address of the next instruction when a meaning runs.
Each operation is said once; each opcode then has a definition of its own, which is that operation at its operands. A
meaning runs after the fetch: PC is already past the instruction (R13, R83). -/

namespace Sys2Proof.Machine

/-- `JMP` and its alias (R191). -/
def jumpTo (w : Word) (s : State) : State := (s.setPc w).charge 10

/-- `Jcc`: 10 cycles, taken or not (R192). -/
def jumpWhen (cc : Cond) (w : Word) (s : State) : State :=
  (if condHolds s.flags cc then s.setPc w else s).charge 10

/-- `CALL` and its aliases (R193). -/
def callAddress (w : Word) (s : State) : State := (callTo w s).charge 17

/-- `Ccc`: 17 cycles taken, 11 not (R194). -/
def callWhen (cc : Cond) (w : Word) (s : State) : State :=
  if condHolds s.flags cc then (callTo w s).charge 17 else s.charge 11

/-- `RET` and its alias (R195). -/
def returnAlways (s : State) : State := (returnFromCall s).charge 10

/-- `Rcc`: 11 cycles taken, 5 not (R196). -/
def returnWhen (cc : Cond) (s : State) : State :=
  if condHolds s.flags cc then (returnFromCall s).charge 11 else s.charge 5

/-- `RST n` (R197). -/
def restart (n : Nat) (s : State) : State := (callTo (vectorAddress n) s).charge 11

/-! ## One meaning for each opcode -/

/-- `JMP a16`, C3 (R191). -/
def execJmp (w : Word) (s : State) : Result := .next (jumpTo w s)

/-- `JMP* a16`, CB (R191). -/
def execJmpAliasCB (w : Word) (s : State) : Result := .next (jumpTo w s)

/-- `JNZ a16`, C2 (R192). -/
def execJnz (w : Word) (s : State) : Result := .next (jumpWhen .nz w s)

/-- `JZ a16`, CA (R192). -/
def execJz (w : Word) (s : State) : Result := .next (jumpWhen .z w s)

/-- `JNC a16`, D2 (R192). -/
def execJnc (w : Word) (s : State) : Result := .next (jumpWhen .nc w s)

/-- `JC a16`, DA (R192). -/
def execJc (w : Word) (s : State) : Result := .next (jumpWhen .c w s)

/-- `JPO a16`, E2 (R192). -/
def execJpo (w : Word) (s : State) : Result := .next (jumpWhen .po w s)

/-- `JPE a16`, EA (R192). -/
def execJpe (w : Word) (s : State) : Result := .next (jumpWhen .pe w s)

/-- `JP a16`, F2 (R192). -/
def execJp (w : Word) (s : State) : Result := .next (jumpWhen .p w s)

/-- `JM a16`, FA (R192). -/
def execJm (w : Word) (s : State) : Result := .next (jumpWhen .m w s)

/-- `CALL a16`, CD (R193). -/
def execCall (w : Word) (s : State) : Result := .next (callAddress w s)

/-- `CALL* a16`, DD (R193). -/
def execCallAliasDD (w : Word) (s : State) : Result := .next (callAddress w s)

/-- `CALL* a16`, ED (R193). -/
def execCallAliasED (w : Word) (s : State) : Result := .next (callAddress w s)

/-- `CALL* a16`, FD (R193). -/
def execCallAliasFD (w : Word) (s : State) : Result := .next (callAddress w s)

/-- `CNZ a16`, C4 (R194). -/
def execCnz (w : Word) (s : State) : Result := .next (callWhen .nz w s)

/-- `CZ a16`, CC (R194). -/
def execCz (w : Word) (s : State) : Result := .next (callWhen .z w s)

/-- `CNC a16`, D4 (R194). -/
def execCnc (w : Word) (s : State) : Result := .next (callWhen .nc w s)

/-- `CC a16`, DC (R194). -/
def execCc (w : Word) (s : State) : Result := .next (callWhen .c w s)

/-- `CPO a16`, E4 (R194). -/
def execCpo (w : Word) (s : State) : Result := .next (callWhen .po w s)

/-- `CPE a16`, EC (R194). -/
def execCpe (w : Word) (s : State) : Result := .next (callWhen .pe w s)

/-- `CP a16`, F4 (R194). -/
def execCp (w : Word) (s : State) : Result := .next (callWhen .p w s)

/-- `CM a16`, FC (R194). -/
def execCm (w : Word) (s : State) : Result := .next (callWhen .m w s)

/-- `RET`, C9 (R195). -/
def execRet (s : State) : Result := .next (returnAlways s)

/-- `RET*`, D9 (R195). -/
def execRetAliasD9 (s : State) : Result := .next (returnAlways s)

/-- `RNZ`, C0 (R196). -/
def execRnz (s : State) : Result := .next (returnWhen .nz s)

/-- `RZ`, C8 (R196). -/
def execRz (s : State) : Result := .next (returnWhen .z s)

/-- `RNC`, D0 (R196). -/
def execRnc (s : State) : Result := .next (returnWhen .nc s)

/-- `RC`, D8 (R196). -/
def execRc (s : State) : Result := .next (returnWhen .c s)

/-- `RPO`, E0 (R196). -/
def execRpo (s : State) : Result := .next (returnWhen .po s)

/-- `RPE`, E8 (R196). -/
def execRpe (s : State) : Result := .next (returnWhen .pe s)

/-- `RP`, F0 (R196). -/
def execRp (s : State) : Result := .next (returnWhen .p s)

/-- `RM`, F8 (R196). -/
def execRm (s : State) : Result := .next (returnWhen .m s)

/-- `RST 0`, C7 (R197). -/
def execRst0 (s : State) : Result := .next (restart 0 s)

/-- `RST 1`, CF (R197). -/
def execRst1 (s : State) : Result := .next (restart 1 s)

/-- `RST 2`, D7 (R197). -/
def execRst2 (s : State) : Result := .next (restart 2 s)

/-- `RST 3`, DF (R197). -/
def execRst3 (s : State) : Result := .next (restart 3 s)

/-- `RST 4`, E7 (R197). -/
def execRst4 (s : State) : Result := .next (restart 4 s)

/-- `RST 5`, EF (R197). -/
def execRst5 (s : State) : Result := .next (restart 5 s)

/-- `RST 6`, F7 (R197). -/
def execRst6 (s : State) : Result := .next (restart 6 s)

/-- `RST 7`, FF (R197). -/
def execRst7 (s : State) : Result := .next (restart 7 s)

end Sys2Proof.Machine
end

