-- ==== Sys2Proof/Machine/Compare.lean ====
section
/-! DEFINITION. The meanings of compare (spec/44_compare.md R180 to R182). The difference is discarded.
Each operation is said once; each opcode then has a definition of its own, which is that operation at its operands. A
meaning runs after the fetch: PC is already past the instruction (R13, R83). -/

namespace Sys2Proof.Machine

/-- `CMP` (R181). -/
def compareReg (x : R8) (s : State) : State :=
  (s.setFlags (subCore (s.reg .a) (readR8 s x) false).2).charge (cyclesFor x 4 7)

/-! ## One meaning for each opcode -/

/-- `CMP B`, B8 (R181). -/
def execCmpB (s : State) : Result := .next (compareReg (.reg .b) s)

/-- `CMP C`, B9 (R181). -/
def execCmpC (s : State) : Result := .next (compareReg (.reg .c) s)

/-- `CMP D`, BA (R181). -/
def execCmpD (s : State) : Result := .next (compareReg (.reg .d) s)

/-- `CMP E`, BB (R181). -/
def execCmpE (s : State) : Result := .next (compareReg (.reg .e) s)

/-- `CMP H`, BC (R181). -/
def execCmpH (s : State) : Result := .next (compareReg (.reg .h) s)

/-- `CMP L`, BD (R181). -/
def execCmpL (s : State) : Result := .next (compareReg (.reg .l) s)

/-- `CMP M`, BE (R181). -/
def execCmpM (s : State) : Result := .next (compareReg .m s)

/-- `CMP A`, BF (R181). -/
def execCmpA (s : State) : Result := .next (compareReg (.reg .a) s)

/-- `CPI d8`, FE (R182). -/
def execCpi (v : Byte) (s : State) : Result := .next ((s.setFlags (subCore (s.reg .a) v false).2).charge 7)

end Sys2Proof.Machine
end

