-- ==== Sys2Proof/Machine/DataMove.lean ====
section
/-! DEFINITION. The meanings of data movement (spec/40_data_movement.md R100 to R116). No instruction here writes a flag (R100).
Each operation is said once; each opcode then has a definition of its own, which is that operation at its operands. A
meaning runs after the fetch: PC is already past the instruction (R13, R83). -/

namespace Sys2Proof.Machine

/-- `MOV r,r'` (R101). -/
def moveRegReg (dst src : Reg) (s : State) : State := (s.setReg dst (s.reg src)).charge 5

/-- `MOV r,M`: the address is HL before the write (R102). -/
def moveRegMem (dst : Reg) (s : State) : State := (s.setReg dst (s.read8 s.hl)).charge 7

/-- `MOV M,r` (R103). -/
def moveMemReg (src : Reg) (s : State) : State := (s.write8 s.hl (s.reg src)).charge 7

/-- `MVI r,d8` (R104). -/
def moveRegImm (dst : Reg) (v : Byte) (s : State) : State := (s.setReg dst v).charge 7

/-- `LXI rp,d16` (R106). -/
def loadPairImm (p : RP) (w : Word) (s : State) : State := (writeRP s p w).charge 10

/-- `LDAX` (R111). -/
def loadIndirect (p : AddrPair) (s : State) : State := (s.setReg .a (s.read8 (addrOf s p))).charge 7

/-- `STAX` (R112). -/
def storeIndirect (p : AddrPair) (s : State) : State := (s.write8 (addrOf s p) (s.reg .a)).charge 7

/-! ## One meaning for each opcode -/

/-- `MOV B,B`, 40 (R101). -/
def execMovBB (s : State) : Result := .next (moveRegReg .b .b s)

/-- `MOV B,C`, 41 (R101). -/
def execMovBC (s : State) : Result := .next (moveRegReg .b .c s)

/-- `MOV B,D`, 42 (R101). -/
def execMovBD (s : State) : Result := .next (moveRegReg .b .d s)

/-- `MOV B,E`, 43 (R101). -/
def execMovBE (s : State) : Result := .next (moveRegReg .b .e s)

/-- `MOV B,H`, 44 (R101). -/
def execMovBH (s : State) : Result := .next (moveRegReg .b .h s)

/-- `MOV B,L`, 45 (R101). -/
def execMovBL (s : State) : Result := .next (moveRegReg .b .l s)

/-- `MOV B,A`, 47 (R101). -/
def execMovBA (s : State) : Result := .next (moveRegReg .b .a s)

/-- `MOV C,B`, 48 (R101). -/
def execMovCB (s : State) : Result := .next (moveRegReg .c .b s)

/-- `MOV C,C`, 49 (R101). -/
def execMovCC (s : State) : Result := .next (moveRegReg .c .c s)

/-- `MOV C,D`, 4A (R101). -/
def execMovCD (s : State) : Result := .next (moveRegReg .c .d s)

/-- `MOV C,E`, 4B (R101). -/
def execMovCE (s : State) : Result := .next (moveRegReg .c .e s)

/-- `MOV C,H`, 4C (R101). -/
def execMovCH (s : State) : Result := .next (moveRegReg .c .h s)

/-- `MOV C,L`, 4D (R101). -/
def execMovCL (s : State) : Result := .next (moveRegReg .c .l s)

/-- `MOV C,A`, 4F (R101). -/
def execMovCA (s : State) : Result := .next (moveRegReg .c .a s)

/-- `MOV D,B`, 50 (R101). -/
def execMovDB (s : State) : Result := .next (moveRegReg .d .b s)

/-- `MOV D,C`, 51 (R101). -/
def execMovDC (s : State) : Result := .next (moveRegReg .d .c s)

/-- `MOV D,D`, 52 (R101). -/
def execMovDD (s : State) : Result := .next (moveRegReg .d .d s)

/-- `MOV D,E`, 53 (R101). -/
def execMovDE (s : State) : Result := .next (moveRegReg .d .e s)

/-- `MOV D,H`, 54 (R101). -/
def execMovDH (s : State) : Result := .next (moveRegReg .d .h s)

/-- `MOV D,L`, 55 (R101). -/
def execMovDL (s : State) : Result := .next (moveRegReg .d .l s)

/-- `MOV D,A`, 57 (R101). -/
def execMovDA (s : State) : Result := .next (moveRegReg .d .a s)

/-- `MOV E,B`, 58 (R101). -/
def execMovEB (s : State) : Result := .next (moveRegReg .e .b s)

/-- `MOV E,C`, 59 (R101). -/
def execMovEC (s : State) : Result := .next (moveRegReg .e .c s)

/-- `MOV E,D`, 5A (R101). -/
def execMovED (s : State) : Result := .next (moveRegReg .e .d s)

/-- `MOV E,E`, 5B (R101). -/
def execMovEE (s : State) : Result := .next (moveRegReg .e .e s)

/-- `MOV E,H`, 5C (R101). -/
def execMovEH (s : State) : Result := .next (moveRegReg .e .h s)

/-- `MOV E,L`, 5D (R101). -/
def execMovEL (s : State) : Result := .next (moveRegReg .e .l s)

/-- `MOV E,A`, 5F (R101). -/
def execMovEA (s : State) : Result := .next (moveRegReg .e .a s)

/-- `MOV H,B`, 60 (R101). -/
def execMovHB (s : State) : Result := .next (moveRegReg .h .b s)

/-- `MOV H,C`, 61 (R101). -/
def execMovHC (s : State) : Result := .next (moveRegReg .h .c s)

/-- `MOV H,D`, 62 (R101). -/
def execMovHD (s : State) : Result := .next (moveRegReg .h .d s)

/-- `MOV H,E`, 63 (R101). -/
def execMovHE (s : State) : Result := .next (moveRegReg .h .e s)

/-- `MOV H,H`, 64 (R101). -/
def execMovHH (s : State) : Result := .next (moveRegReg .h .h s)

/-- `MOV H,L`, 65 (R101). -/
def execMovHL (s : State) : Result := .next (moveRegReg .h .l s)

/-- `MOV H,A`, 67 (R101). -/
def execMovHA (s : State) : Result := .next (moveRegReg .h .a s)

/-- `MOV L,B`, 68 (R101). -/
def execMovLB (s : State) : Result := .next (moveRegReg .l .b s)

/-- `MOV L,C`, 69 (R101). -/
def execMovLC (s : State) : Result := .next (moveRegReg .l .c s)

/-- `MOV L,D`, 6A (R101). -/
def execMovLD (s : State) : Result := .next (moveRegReg .l .d s)

/-- `MOV L,E`, 6B (R101). -/
def execMovLE (s : State) : Result := .next (moveRegReg .l .e s)

/-- `MOV L,H`, 6C (R101). -/
def execMovLH (s : State) : Result := .next (moveRegReg .l .h s)

/-- `MOV L,L`, 6D (R101). -/
def execMovLL (s : State) : Result := .next (moveRegReg .l .l s)

/-- `MOV L,A`, 6F (R101). -/
def execMovLA (s : State) : Result := .next (moveRegReg .l .a s)

/-- `MOV A,B`, 78 (R101). -/
def execMovAB (s : State) : Result := .next (moveRegReg .a .b s)

/-- `MOV A,C`, 79 (R101). -/
def execMovAC (s : State) : Result := .next (moveRegReg .a .c s)

/-- `MOV A,D`, 7A (R101). -/
def execMovAD (s : State) : Result := .next (moveRegReg .a .d s)

/-- `MOV A,E`, 7B (R101). -/
def execMovAE (s : State) : Result := .next (moveRegReg .a .e s)

/-- `MOV A,H`, 7C (R101). -/
def execMovAH (s : State) : Result := .next (moveRegReg .a .h s)

/-- `MOV A,L`, 7D (R101). -/
def execMovAL (s : State) : Result := .next (moveRegReg .a .l s)

/-- `MOV A,A`, 7F (R101). -/
def execMovAA (s : State) : Result := .next (moveRegReg .a .a s)

/-- `MOV B,M`, 46 (R102). -/
def execMovBM (s : State) : Result := .next (moveRegMem .b s)

/-- `MOV C,M`, 4E (R102). -/
def execMovCM (s : State) : Result := .next (moveRegMem .c s)

/-- `MOV D,M`, 56 (R102). -/
def execMovDM (s : State) : Result := .next (moveRegMem .d s)

/-- `MOV E,M`, 5E (R102). -/
def execMovEM (s : State) : Result := .next (moveRegMem .e s)

/-- `MOV H,M`, 66 (R102). -/
def execMovHM (s : State) : Result := .next (moveRegMem .h s)

/-- `MOV L,M`, 6E (R102). -/
def execMovLM (s : State) : Result := .next (moveRegMem .l s)

/-- `MOV A,M`, 7E (R102). -/
def execMovAM (s : State) : Result := .next (moveRegMem .a s)

/-- `MOV M,B`, 70 (R103). -/
def execMovMB (s : State) : Result := .next (moveMemReg .b s)

/-- `MOV M,C`, 71 (R103). -/
def execMovMC (s : State) : Result := .next (moveMemReg .c s)

/-- `MOV M,D`, 72 (R103). -/
def execMovMD (s : State) : Result := .next (moveMemReg .d s)

/-- `MOV M,E`, 73 (R103). -/
def execMovME (s : State) : Result := .next (moveMemReg .e s)

/-- `MOV M,H`, 74 (R103). -/
def execMovMH (s : State) : Result := .next (moveMemReg .h s)

/-- `MOV M,L`, 75 (R103). -/
def execMovML (s : State) : Result := .next (moveMemReg .l s)

/-- `MOV M,A`, 77 (R103). -/
def execMovMA (s : State) : Result := .next (moveMemReg .a s)

/-- `MVI B,d8`, 06 (R104). -/
def execMviB (v : Byte) (s : State) : Result := .next (moveRegImm .b v s)

/-- `MVI C,d8`, 0E (R104). -/
def execMviC (v : Byte) (s : State) : Result := .next (moveRegImm .c v s)

/-- `MVI D,d8`, 16 (R104). -/
def execMviD (v : Byte) (s : State) : Result := .next (moveRegImm .d v s)

/-- `MVI E,d8`, 1E (R104). -/
def execMviE (v : Byte) (s : State) : Result := .next (moveRegImm .e v s)

/-- `MVI H,d8`, 26 (R104). -/
def execMviH (v : Byte) (s : State) : Result := .next (moveRegImm .h v s)

/-- `MVI L,d8`, 2E (R104). -/
def execMviL (v : Byte) (s : State) : Result := .next (moveRegImm .l v s)

/-- `MVI A,d8`, 3E (R104). -/
def execMviA (v : Byte) (s : State) : Result := .next (moveRegImm .a v s)

/-- `MVI M,d8`, 36 (R105). -/
def execMviM (v : Byte) (s : State) : Result := .next ((s.write8 s.hl v).charge 10)

/-- `LXI B,d16`, 01 (R106). -/
def execLxiB (w : Word) (s : State) : Result := .next (loadPairImm (.pair .bc) w s)

/-- `LXI D,d16`, 11 (R106). -/
def execLxiD (w : Word) (s : State) : Result := .next (loadPairImm (.pair .de) w s)

/-- `LXI H,d16`, 21 (R106). -/
def execLxiH (w : Word) (s : State) : Result := .next (loadPairImm (.pair .hl) w s)

/-- `LXI SP,d16`, 31 (R106). -/
def execLxiSp (w : Word) (s : State) : Result := .next (loadPairImm .sp w s)

/-- `LDA a16`, 3A (R107). -/
def execLda (w : Word) (s : State) : Result := .next ((s.setReg .a (s.read8 w)).charge 13)

/-- `STA a16`, 32 (R108). -/
def execSta (w : Word) (s : State) : Result := .next ((s.write8 w (s.reg .a)).charge 13)

/-- `LHLD a16`, 2A (R109). -/
def execLhld (w : Word) (s : State) : Result := .next ((s.setPair .hl (s.read16 w)).charge 16)

/-- `SHLD a16`, 22 (R110). -/
def execShld (w : Word) (s : State) : Result := .next ((s.write16 w s.hl).charge 16)

/-- `LDAX B`, 0A (R111). -/
def execLdaxB (s : State) : Result := .next (loadIndirect .bc s)

/-- `LDAX D`, 1A (R111). -/
def execLdaxD (s : State) : Result := .next (loadIndirect .de s)

/-- `STAX B`, 02 (R112). -/
def execStaxB (s : State) : Result := .next (storeIndirect .bc s)

/-- `STAX D`, 12 (R112). -/
def execStaxD (s : State) : Result := .next (storeIndirect .de s)

/-- `XCHG`, EB (R113). -/
def execXchg (s : State) : Result := .next (((s.setPair .hl (s.pair .de)).setPair .de s.hl).charge 5)

/-- `XTHL`, E3 (R114). -/
def execXthl (s : State) : Result := .next (((s.write16 s.sp s.hl).setPair .hl (s.read16 s.sp)).charge 18)

/-- `SPHL`, F9 (R115). -/
def execSphl (s : State) : Result := .next ((s.setSp s.hl).charge 5)

/-- `PCHL`, E9 (R116). -/
def execPchl (s : State) : Result := .next ((s.setPc s.hl).charge 5)

end Sys2Proof.Machine
end

