-- ==== Sys2Proof/Machine/IoControl.lean ====
section
/-! DEFINITION. The meanings of I/O and control (spec/47_io_control.md R230 to R238).
Each operation is said once; each opcode then has a definition of its own, which is that operation at its operands. A
meaning runs after the fetch: PC is already past the instruction (R13, R83). -/

namespace Sys2Proof.Machine

/-- What IN does, by what it is connected to: `A <- PortRead(d8)` on the cabinet's bus (R232), the end of the run under the
harness's listener (R305), or whatever another listener does (R306). -/
def input (p : Byte) (s : State) : State :=
  match s.env.input with
  | .cabinetBus => s.setReg .a (portRead s p)
  | .harness => endRun s
  | .custom => applyListener (Config.inputListener s.env.freeCount s) s

/-- What OUT does, by what it is connected to: `PortWrite(d8, A)` on the cabinet's bus (R233), the harness's print (R305), or
whatever another listener does (R306). -/
def output (p : Byte) (s : State) : State :=
  match s.env.output with
  | .cabinetBus => portWrite s p (s.reg .a)
  | .harness => harnessOutput s
  | .custom => applyListener (Config.outputListener s.env.freeCount s) s

/-! ## One meaning for each opcode -/

/-- `IN d8`, DB (R232). -/
def execInPort (v : Byte) (s : State) : Result := .next ((input v s).charge 10)

/-- `OUT d8`, D3 (R233). -/
def execOutPort (v : Byte) (s : State) : Result := .next ((output v s).charge 10)

/-- `EI`, FB (R234). -/
def execEi (s : State) : Result := .next ({ s with iePending := true }.charge 4)

/-- `DI`, F3 (R235). -/
def execDi (s : State) : Result := .next ({ s with ie := false }.charge 4)

/-- `HLT`, 76 (R236). -/
def execHlt (s : State) : Result := .next ((s.setPc (s.pc - 1)).charge 7)

/-- `NOP`, 00 (R237). -/
def execNop (s : State) : Result := .next (s.charge 4)

/-- `NOP*`, 08 (R238). -/
def execNopReserved08 (s : State) : Result := .next (s.charge 4)

/-- `NOP*`, 10 (R238). -/
def execNopReserved10 (s : State) : Result := .next (s.charge 4)

/-- `NOP*`, 18 (R238). -/
def execNopReserved18 (s : State) : Result := .next (s.charge 4)

/-- `NOP*`, 20 (R238). -/
def execNopReserved20 (s : State) : Result := .next (s.charge 4)

/-- `NOP*`, 28 (R238). -/
def execNopReserved28 (s : State) : Result := .next (s.charge 4)

/-- `NOP*`, 30 (R238). -/
def execNopReserved30 (s : State) : Result := .next (s.charge 4)

/-- `NOP*`, 38 (R238). -/
def execNopReserved38 (s : State) : Result := .next (s.charge 4)

end Sys2Proof.Machine
end

