-- ==== Sys2Proof/Machine/Logic.lean ====
section
/-! DEFINITION. The meanings of logic (spec/42_logic.md R150 to R159).
Each operation is said once; each opcode then has a definition of its own, which is that operation at its operands. A
meaning runs after the fetch: PC is already past the instruction (R13, R83). -/

namespace Sys2Proof.Machine

/-- `ANA` (R151). -/
def andReg (x : R8) (s : State) : State :=
  (setAccumulator (andCore (s.reg .a) (readR8 s x)) s).charge (cyclesFor x 4 7)

/-- `XRA` (R153). -/
def xorReg (x : R8) (s : State) : State :=
  (setAccumulator (xorCore (s.reg .a) (readR8 s x)) s).charge (cyclesFor x 4 7)

/-- `ORA` (R155). -/
def orReg (x : R8) (s : State) : State :=
  (setAccumulator (orCore (s.reg .a) (readR8 s x)) s).charge (cyclesFor x 4 7)

/-! ## One meaning for each opcode -/

/-- `ANA B`, A0 (R151). -/
def execAnaB (s : State) : Result := .next (andReg (.reg .b) s)

/-- `ANA C`, A1 (R151). -/
def execAnaC (s : State) : Result := .next (andReg (.reg .c) s)

/-- `ANA D`, A2 (R151). -/
def execAnaD (s : State) : Result := .next (andReg (.reg .d) s)

/-- `ANA E`, A3 (R151). -/
def execAnaE (s : State) : Result := .next (andReg (.reg .e) s)

/-- `ANA H`, A4 (R151). -/
def execAnaH (s : State) : Result := .next (andReg (.reg .h) s)

/-- `ANA L`, A5 (R151). -/
def execAnaL (s : State) : Result := .next (andReg (.reg .l) s)

/-- `ANA M`, A6 (R151). -/
def execAnaM (s : State) : Result := .next (andReg .m s)

/-- `ANA A`, A7 (R151). -/
def execAnaA (s : State) : Result := .next (andReg (.reg .a) s)

/-- `ANI d8`, E6 (R152). -/
def execAni (v : Byte) (s : State) : Result := .next ((setAccumulator (andCore (s.reg .a) v) s).charge 7)

/-- `XRA B`, A8 (R153). -/
def execXraB (s : State) : Result := .next (xorReg (.reg .b) s)

/-- `XRA C`, A9 (R153). -/
def execXraC (s : State) : Result := .next (xorReg (.reg .c) s)

/-- `XRA D`, AA (R153). -/
def execXraD (s : State) : Result := .next (xorReg (.reg .d) s)

/-- `XRA E`, AB (R153). -/
def execXraE (s : State) : Result := .next (xorReg (.reg .e) s)

/-- `XRA H`, AC (R153). -/
def execXraH (s : State) : Result := .next (xorReg (.reg .h) s)

/-- `XRA L`, AD (R153). -/
def execXraL (s : State) : Result := .next (xorReg (.reg .l) s)

/-- `XRA M`, AE (R153). -/
def execXraM (s : State) : Result := .next (xorReg .m s)

/-- `XRA A`, AF (R153). -/
def execXraA (s : State) : Result := .next (xorReg (.reg .a) s)

/-- `XRI d8`, EE (R154). -/
def execXri (v : Byte) (s : State) : Result := .next ((setAccumulator (xorCore (s.reg .a) v) s).charge 7)

/-- `ORA B`, B0 (R155). -/
def execOraB (s : State) : Result := .next (orReg (.reg .b) s)

/-- `ORA C`, B1 (R155). -/
def execOraC (s : State) : Result := .next (orReg (.reg .c) s)

/-- `ORA D`, B2 (R155). -/
def execOraD (s : State) : Result := .next (orReg (.reg .d) s)

/-- `ORA E`, B3 (R155). -/
def execOraE (s : State) : Result := .next (orReg (.reg .e) s)

/-- `ORA H`, B4 (R155). -/
def execOraH (s : State) : Result := .next (orReg (.reg .h) s)

/-- `ORA L`, B5 (R155). -/
def execOraL (s : State) : Result := .next (orReg (.reg .l) s)

/-- `ORA M`, B6 (R155). -/
def execOraM (s : State) : Result := .next (orReg .m s)

/-- `ORA A`, B7 (R155). -/
def execOraA (s : State) : Result := .next (orReg (.reg .a) s)

/-- `ORI d8`, F6 (R156). -/
def execOri (v : Byte) (s : State) : Result := .next ((setAccumulator (orCore (s.reg .a) v) s).charge 7)

/-- `CMA`, 2F (R157). -/
def execCma (s : State) : Result := .next ((s.setReg .a (~~~(s.reg .a))).charge 4)

/-- `CMC`, 3F (R158). -/
def execCmc (s : State) : Result := .next ((s.setCy (!s.flags.cy)).charge 4)

/-- `STC`, 37 (R159). -/
def execStc (s : State) : Result := .next ((s.setCy true).charge 4)

end Sys2Proof.Machine
end

