-- ==== Sys2Proof/Machine/Rotate.lean ====
section
/-! DEFINITION. The meanings of rotates (spec/43_rotate.md R170 to R174). Each writes A and CY and nothing else.
Each operation is said once; each opcode then has a definition of its own, which is that operation at its operands. A
meaning runs after the fetch: PC is already past the instruction (R13, R83). -/

namespace Sys2Proof.Machine

/-- `RLC`: the new A, and the new CY (R171). -/
def rotateLeft (a : Byte) : Byte × Bool := (a.extractLsb' 0 7 ++ a.extractLsb' 7 1, a.getLsbD 7)

/-- `RRC` (R172). -/
def rotateRight (a : Byte) : Byte × Bool := (a.extractLsb' 0 1 ++ a.extractLsb' 1 7, a.getLsbD 0)

/-- `RAL` (R173). -/
def rotateLeftCarry (a : Byte) (cy : Bool) : Byte × Bool := (a.extractLsb' 0 7 ++ BitVec.ofBool cy, a.getLsbD 7)

/-- `RAR` (R174). -/
def rotateRightCarry (a : Byte) (cy : Bool) : Byte × Bool := (BitVec.ofBool cy ++ a.extractLsb' 1 7, a.getLsbD 0)

/-- Write a rotated A and its CY (R170). -/
def rotate (r : Byte × Bool) (s : State) : State := ((s.setReg .a r.1).setCy r.2).charge 4

/-! ## One meaning for each opcode -/

/-- `RLC`, 07 (R171). -/
def execRlc (s : State) : Result := .next (rotate (rotateLeft (s.reg .a)) s)

/-- `RRC`, 0F (R172). -/
def execRrc (s : State) : Result := .next (rotate (rotateRight (s.reg .a)) s)

/-- `RAL`, 17 (R173). -/
def execRal (s : State) : Result := .next (rotate (rotateLeftCarry (s.reg .a) s.flags.cy) s)

/-- `RAR`, 1F (R174). -/
def execRar (s : State) : Result := .next (rotate (rotateRightCarry (s.reg .a) s.flags.cy) s)

end Sys2Proof.Machine
end

