-- ==== Sys2Proof/Machine/Stack.lean ====
section
/-! DEFINITION. The meanings of the stack (spec/46_stack.md R220 to R224).
Each operation is said once; each opcode then has a definition of its own, which is that operation at its operands. A
meaning runs after the fetch: PC is already past the instruction (R13, R83). -/

namespace Sys2Proof.Machine

/-- `PUSH rp` (R221). -/
def pushPair (p : Pair) (s : State) : State := (push16 (s.pair p) s).charge 11

/-- `POP rp` (R223). -/
def popPair (p : Pair) (s : State) : State :=
  let (v, s) := pop16 s
  (s.setPair p v).charge 10

/-! ## One meaning for each opcode -/

/-- `PUSH B`, C5 (R221). -/
def execPushB (s : State) : Result := .next (pushPair .bc s)

/-- `PUSH D`, D5 (R221). -/
def execPushD (s : State) : Result := .next (pushPair .de s)

/-- `PUSH H`, E5 (R221). -/
def execPushH (s : State) : Result := .next (pushPair .hl s)

/-- `PUSH PSW`, F5 (R222). -/
def execPushPsw (s : State) : Result := .next ((push16 (joinBytes (s.reg .a) (pswByte s.flags)) s).charge 11)

/-- `POP B`, C1 (R223). -/
def execPopB (s : State) : Result := .next (popPair .bc s)

/-- `POP D`, D1 (R223). -/
def execPopD (s : State) : Result := .next (popPair .de s)

/-- `POP H`, E1 (R223). -/
def execPopH (s : State) : Result := .next (popPair .hl s)

/-- `POP PSW`, F1 (R224). -/
def execPopPsw (s : State) : Result := .next ((((s.setFlags (flagsOfPsw (s.read8 s.sp))).setReg .a (s.read8 (s.sp + 1))).setSp (s.sp + 2)).charge 10)

end Sys2Proof.Machine
end

