-- ==== Sys2Proof/Machine/RunOne.lean ====
section
/-! DEFINITION. `run_one`, the CPU's step (spec/30_encoding.md R83), and the instruction `withFetchWord` places. -/

namespace Sys2Proof.Machine

/-- `run_one` (R83): a pending enable collapses, the instruction is fetched whole, and its meaning runs and charges its
cycles. -/
def runOne (s : State) : Result :=
  let (i, t) := fetchInstr (collapsePending s)
  exec i t

/-- The cycle count `run_one` returns (R83 step 7): what CYC has grown by. -/
def returnedCycles (before after : State) : Nat := (after.cyc - before.cyc).toNat

/-- The instruction of a row of spec/opcode_table.json stored at PC, in a run that has not ended (log entries 17, 18). -/
def placeAtPc (s : State) (nbits w : Nat) : State :=
  { s.writeBytes s.pc (tableBytes nbits w) with driver := { s.driver with quit := false } }

end Sys2Proof.Machine
end

