-- ==== Sys2Proof/Machine/Step.lean ====
section
/-! DEFINITION. One step: one turn of the driver loop (spec/60_exceptions.md R275). -/

namespace Sys2Proof.Machine

/-- One turn of the loop of R275: nothing once QUIT is set; otherwise one `run_one`, then the outside world's acts and a Tick
if one is due. -/
def step (s : State) : Host.Outcome State Fault Refusal :=
  if s.driver.quit then .refused .runEnded
  else
    match runOne s with
    | .next t => closeTurn (returnedCycles s t) t
    | .fault f => .fault f
    | .refused r => .refused r

/-- The state with the instruction whose bits are `w` stored where the next step fetches. -/
def State.withFetchWord (s : State) (nbits w : Nat) : State := placeAtPc s nbits w

end Sys2Proof.Machine
end

