-- ==== Sys2Proof/Safety.lean ====
section
/-! DEFINITION. What counts as a safe run, in the terms statements use. -/

namespace Sys2Proof.Machine

/-- An event the spec allows on the output trace: a sound trigger of port 3 (bits 0 to 3, R269) or of port 5 (bits 0 to 4,
R270), or a snapshot of all 7,168 bytes of video RAM (R278). -/
def Event.legal : Event → Bool
  | .sound port i => (port == 0x03 && decide (i < 4)) || (port == 0x05 && decide (i < 5))
  | .render bytes => bytes.length == vramSize

/-- The invariant every step keeps: memory has its canonical form inside the 64 KiB address space, and the output trace holds
legal events only. -/
def StateInv (s : State) : Prop := s.mem.wf = true ∧ ∀ e ∈ s.out.events, Event.legal e = true

/-- A run that has not ended and whose next turn of the outside world the host boundary accepts: the step answers a next
state. -/
def Ready (s : State) : Prop := s.driver.quit = false ∧ (nextBoundary s).wellFormed = true

end Sys2Proof.Machine
end

