-- ==== Sys2Proof/Certificates/Slice0/Obligations.lean ====
section
/-! DEFINITION. The statements about the model, each from the rules of spec/ that its docstring names. A state `s` before an
instruction's meaning is the state after its fetch: PC is already past the instruction (R13, R83). Wherever a statement gives an
instruction's encoding, the opcode map and the codes of registers, pairs and conditions are general knowledge (log entry 19);
wherever it says that flags stay which the source does not mention, that is the spec's decision D7 (log entry 27). -/

namespace Sys2Proof.Stmt

open Sys2Proof.Machine

/-! ## Codes of the opcode byte's fields (R14 to R16, R72) -/

/-- The 3-bit code of a register (R14). -/
def regCode : Reg → Nat
  | .b => 0
  | .c => 1
  | .d => 2
  | .e => 3
  | .h => 4
  | .l => 5
  | .a => 7

/-- The 3-bit code of an 8-bit operand: 6 is M (R14). -/
def r8Code : R8 → Nat
  | .reg r => regCode r
  | .m => 6

/-- The 2-bit code of a register pair (R15). -/
def pairCode : Pair → Nat
  | .bc => 0
  | .de => 1
  | .hl => 2

/-- The 2-bit code of a 16-bit operand: 3 is SP (R15). -/
def rpCode : RP → Nat
  | .pair p => pairCode p
  | .sp => 3

/-- The 2-bit code of the pair LDAX and STAX use (R111, R112). -/
def addrCode : AddrPair → Nat
  | .bc => 0
  | .de => 1

/-- The 3-bit code of a condition (R16). -/
def condCode : Cond → Nat
  | .nz => 0
  | .z => 1
  | .nc => 2
  | .c => 3
  | .po => 4
  | .pe => 5
  | .p => 6
  | .m => 7

/-- A byte given by its number. -/
def byteOf (n : Nat) : Byte := BitVec.ofNat 8 n

/-- The low byte of a word, as a number's remainder (R54). -/
def lo8 (w : Word) : Byte := BitVec.ofNat 8 (w.toNat % 256)

/-- The high byte of a word, as a number's quotient (R54). -/
def hi8 (w : Word) : Byte := BitVec.ofNat 8 (w.toNat / 256)

/-- A word from its two bytes. -/
def wordOf (hi lo : Byte) : Word := BitVec.ofNat 16 (hi.toNat * 256 + lo.toNat)

/-! ## Operands, as R14 to R16 and R21 read them -/

/-- The value of a pair: the first letter is the high byte (R21). -/
def pairValue (s : State) : Pair → Word
  | .bc => wordOf (s.reg .b) (s.reg .c)
  | .de => wordOf (s.reg .d) (s.reg .e)
  | .hl => wordOf (s.reg .h) (s.reg .l)

/-- The registers of a pair, high byte first (R21). -/
def pairRegs : Pair → List Reg
  | .bc => [.b, .c]
  | .de => [.d, .e]
  | .hl => [.h, .l]

/-- The value of a 16-bit operand (R15). -/
def rpValue (s : State) : RP → Word
  | .pair p => pairValue s p
  | .sp => s.sp

/-- The address LDAX and STAX use. -/
def addrValue (s : State) : AddrPair → Word
  | .bc => pairValue s .bc
  | .de => pairValue s .de

/-- The value of an 8-bit operand: a register, or the byte at HL (R14). -/
def r8Value (s : State) : R8 → Byte
  | .reg r => s.reg r
  | .m => s.read8 (pairValue s .hl)

/-- The registers an 8-bit operand that is written names. -/
def r8Regs : R8 → List Reg
  | .reg r => [r]
  | .m => []

/-- The addresses an 8-bit operand that is written names: HL for M. -/
def r8Stored (s : State) : R8 → List Word
  | .reg _ => []
  | .m => [pairValue s .hl]

/-- The condition holds (R16). -/
def condTrue (f : Flags) : Cond → Prop
  | .nz => f.z = false
  | .z => f.z = true
  | .nc => f.cy = false
  | .c => f.cy = true
  | .po => f.p = false
  | .pe => f.p = true
  | .p => f.s = false
  | .m => f.s = true

/-- A flag as a number. -/
def num (v : Bool) : Nat := if v then 1 else 0

/-- The number of 1 bits of a byte. -/
def ones (v : Byte) : Nat :=
  num (v.getLsbD 0) + num (v.getLsbD 1) + num (v.getLsbD 2) + num (v.getLsbD 3) + num (v.getLsbD 4) +
    num (v.getLsbD 5) + num (v.getLsbD 6) + num (v.getLsbD 7)

/-- Z, S and P describe the 8-bit result `v` (R17). -/
def ZspOf (f : Flags) (v : Byte) : Prop :=
  (f.z = true ↔ v.toNat = 0) ∧ (f.s = true ↔ 128 ≤ v.toNat) ∧ (f.p = true ↔ ones v % 2 = 0)

/-! ## Frames -/

/-- Every register but those listed is unchanged. -/
def RegsKept (s t : State) (except : List Reg) : Prop := ∀ r : Reg, r ∉ except → t.reg r = s.reg r

/-- Every byte of memory but those at the addresses listed reads as before. -/
def MemKept (s t : State) (stored : List Word) : Prop := ∀ a : Word, a ∉ stored → t.read8 a = s.read8 a

/-- The interrupt latches, the I/O bus, the frame driver, the output and the environment are unchanged. -/
def SystemKept (s t : State) : Prop :=
  t.ie = s.ie ∧ t.iePending = s.iePending ∧ t.bus = s.bus ∧ t.driver = s.driver ∧ t.out = s.out ∧ t.env = s.env

/-- What an instruction that writes no flag, does not transfer control and does not move SP leaves alone, besides registers
and memory. -/
def PlainKept (s t : State) : Prop := t.sp = s.sp ∧ t.pc = s.pc ∧ t.flags = s.flags ∧ SystemKept s t

/-- The cycle counter has grown by `n`, modulo 2^64 (R30). -/
def Cost (s t : State) (n : Nat) : Prop := t.cyc = s.cyc + BitVec.ofNat 64 n

/-- What a two-operand instruction of the accumulator leaves alone. -/
def AccKept (s t : State) (except : List Reg) : Prop :=
  RegsKept s t except ∧ MemKept s t [] ∧ t.sp = s.sp ∧ t.pc = s.pc ∧ SystemKept s t

/-- The other four flags are unchanged. -/
def OnlyCy (s t : State) : Prop :=
  t.flags.s = s.flags.s ∧ t.flags.z = s.flags.z ∧ t.flags.ac = s.flags.ac ∧ t.flags.p = s.flags.p

/-- A as a number. -/
def accNum (s : State) : Nat := (s.reg .a).toNat

/-- The result and flags of an addition to A (R120). -/
def Added (s t : State) (b : Byte) (cin : Nat) : Prop :=
  accNum t = (accNum s + b.toNat + cin) % 256 ∧
    (t.flags.cy = true ↔ 255 < accNum s + b.toNat + cin) ∧
    (t.flags.ac = true ↔ 15 < accNum s % 16 + b.toNat % 16 + cin) ∧ ZspOf t.flags (t.reg .a)

/-- CY and AC of a subtraction `a - b - bin` (R121; AC by the spec's decision D5, log entry 4). -/
def Borrowed (f : Flags) (a b : Byte) (bin : Nat) : Prop :=
  (f.cy = true ↔ a.toNat < b.toNat + bin) ∧ (f.ac = true ↔ a.toNat % 16 < b.toNat % 16 + bin)

/-- The 8-bit difference `a - b - bin`, modulo 256 (R121). -/
def difference (a b : Byte) (bin : Nat) : Byte := BitVec.ofNat 8 (a.toNat + 512 - b.toNat - bin)

/-- The result and flags of a subtraction from A (R121). -/
def Subtracted (s t : State) (b : Byte) (bin : Nat) : Prop :=
  t.reg .a = difference (s.reg .a) b bin ∧ Borrowed t.flags (s.reg .a) b bin ∧ ZspOf t.flags (t.reg .a)

/-- The return address `v` stands below the old SP, high byte at SP - 1, low byte at SP - 2, and SP is two lower (R18). -/
def PushedWord (s t : State) (v : Word) : Prop :=
  t.read8 (s.sp - 1) = hi8 v ∧ t.read8 (s.sp - 2) = lo8 v ∧ t.sp = s.sp - 2 ∧ MemKept s t [s.sp - 1, s.sp - 2]

/-- The word at SP, low byte at SP, high byte at SP + 1 (R18). -/
def topOfStack (s : State) : Word := wordOf (s.read8 (s.sp + 1)) (s.read8 s.sp)

/-- What a jump, call or return leaves alone. -/
def BranchKept (s t : State) : Prop := RegsKept s t [] ∧ t.flags = s.flags ∧ SystemKept s t

end Sys2Proof.Stmt

open Sys2Proof Sys2Proof.Machine Sys2Proof.Stmt

/-! ## Encoding -/

/-- Words written out from the opcode map (R76) and the formats (R71) decode to the instructions they stand for, one for each
family at least. -/
def Obligations.DecodesWordsOfTheOpcodeMap : Prop :=
  decode [0x41] = .ok (.movBC, []) ∧ decode [0x01, 0x02, 0x03] = .ok (.lxiB 0x0302, []) ∧
    decode [0x03] = .ok (.inxB, []) ∧ decode [0xC6, 0x42] = .ok (.adi 0x42, []) ∧ decode [0xA1] = .ok (.anaC, []) ∧
    decode [0x17] = .ok (.ral, []) ∧ decode [0xBB] = .ok (.cmpE, []) ∧
    decode [0xC2, 0x88, 0xFF] = .ok (.jnz 0xFF88, []) ∧ decode [0xCD, 0x34, 0x12, 0x09] = .ok (.call 0x1234, [0x09]) ∧
    decode [0xF5] = .ok (.pushPsw, []) ∧ decode [0xDB, 0x03] = .ok (.inPort 0x03, []) ∧
    decode [0x76] = .ok (.hlt, []) ∧ decode [0x08] = .ok (.nopReserved08, [])

/-- Decoding what the encoder writes gives the instruction back, whatever bytes follow, for every instruction and every
operand (R70, R71, R74, R76). -/
def Obligations.DecodeOfEncodeIsTheInstruction : Prop :=
  ∀ (i : Instr) (rest : List Byte), i.wellFormed = true → decode (encode i ++ rest) = .ok (i, rest)

/-- Each byte sequence has one meaning: where the decoder reads an instruction, the bytes it used are that instruction's
encoding (R70, R80). -/
def Obligations.EncodeOfDecodeIsTheBytes : Prop :=
  ∀ (bytes : List Byte) (i : Instr) (rest : List Byte), decode bytes = .ok (i, rest) → bytes = encode i ++ rest

/-- No opcode byte is illegal: with two bytes after it, each of the 256 decodes, to an instruction with that opcode; decoding
fails only where the bytes end too soon (R79; the twelve undocumented bytes are the spec's decision D23); and the opcode byte
alone tells the length: the 18 two-byte opcodes, the 30 three-byte opcodes and the 208 one-byte opcodes of R76 (the map is
general knowledge, log entry 19). -/
def Obligations.EveryOpcodeByteDecodesAndTellsTheLength : Prop :=
  (∀ op b1 b2 : Byte, ∃ i rest, decode [op, b1, b2] = .ok (i, rest) ∧ i.opcode = op) ∧
  (∀ (bytes : List Byte) (e : DecodeError), decode bytes = .error e → bytes.length < 3) ∧
  ∀ i : Instr,
    i.length =
      if i.opcode ∈ ([0x06, 0x0E, 0x16, 0x1E, 0x26, 0x2E, 0x36, 0x3E, 0xC6, 0xCE, 0xD3, 0xD6, 0xDB, 0xDE, 0xE6, 0xEE,
          0xF6, 0xFE] : List Byte) then 2
      else if i.opcode ∈ ([0x01, 0x11, 0x21, 0x22, 0x2A, 0x31, 0x32, 0x3A, 0xC2, 0xC3, 0xC4, 0xCA, 0xCB, 0xCC, 0xCD,
          0xD2, 0xD4, 0xDA, 0xDC, 0xDD, 0xE2, 0xE4, 0xEA, 0xEC, 0xED, 0xF2, 0xF4, 0xFA, 0xFC, 0xFD] : List Byte) then 3
      else 1

/-! ## The step -/

/-- One step runs the instruction whose bytes stand at PC: a pending enable collapses, PC moves past the instruction, its
meaning runs, and the rest of the driver's loop follows with the cycles it has charged (R83, R275). -/
def Obligations.StepRunsTheInstructionAtPc : Prop :=
  ∀ (s : State) (i : Instr) (rest : List Byte),
    s.driver.quit = false → i.wellFormed = true →
    decode [s.read8 s.pc, s.read8 (s.pc + 1), s.read8 (s.pc + 2)] = .ok (i, rest) →
    step s =
      match exec i { s with
          pc := s.pc + BitVec.ofNat 16 i.length, ie := s.ie || s.iePending, iePending := false } with
      | .next t => closeTurn (t.cyc - s.cyc).toNat t
      | .fault f => .fault f
      | .refused r => .refused r

/-- In the cabinet, with no act of the outside world and no Tick in this turn, all that follows the instruction is the
budget's growth by the cycles it charged (R275, R281). -/
def Obligations.QuietTurnOnlyAddsToTheBudget : Prop :=
  ∀ (s : State) (n : Nat),
    s.env.input = .cabinetBus → s.env.output = .cabinetBus → s.env.schedule = .scripted → s.env.script = [] →
    closeTurn n s = .next { s with driver := { s.driver with budget := s.driver.budget + n } }

/-- Every instruction runs from every state to exactly one next state: no fault, no refusal (R7, R250). -/
def Obligations.EveryInstructionAnswersANextState : Prop :=
  ∀ (i : Instr) (s : State), ∃ t : State, exec i s = .next t

/-- A step answers a next state exactly when the run has not ended and the host boundary accepts what the outside world does
in this turn (R7, R8). -/
def Obligations.StepGoesOnExactlyWhenReady : Prop :=
  ∀ s : State, (∃ t : State, step s = .next t) ↔ Ready s

/-- The invariant holds after reset. -/
def Obligations.ResetMeetsTheInvariant : Prop := StateInv State.reset

/-- Every step, from any state, keeps memory's canonical form and a legal output trace (R50, R269, R270, R278). -/
def Obligations.EveryStepKeepsTheInvariant : Prop :=
  ∀ s t : State, StateInv s → step s = .next t → StateInv t

/-- The state after reset, field by field. All values but NEXT_VEC = mid are the spec's decisions D1, D2, D13 to D15 (R42), not
the source's; `env` and `out` are the model's own (log entries 1, 2, 10, 11, 14, 21). -/
def Obligations.ResetLeavesTheTabulatedState : Prop :=
  (∀ r : Reg, State.reset.reg r = 0x00) ∧ State.reset.sp = 0x0000 ∧ State.reset.pc = 0x0000 ∧
    State.reset.flags = ⟨false, false, false, false, false⟩ ∧ pswByte State.reset.flags = 0x02 ∧
    State.reset.ie = false ∧ State.reset.iePending = false ∧ State.reset.cyc = 0 ∧
    (∀ a : Word, State.reset.read8 a = 0x00) ∧ State.reset.bus = ⟨0x00, 0x00, 0x00, 0x00, 0, 0x00, 0x00⟩ ∧
    State.reset.driver = ⟨.mid, [], false, 0, 0⟩ ∧ State.reset.env.input = .cabinetBus ∧
    State.reset.env.output = .cabinetBus ∧ State.reset.out.events = []

/-! ## Data movement -/

/-- `MOV r,r'` (R101): encoding, the copy, 5 cycles, nothing else. The opcodes and register codes are general knowledge (log
entry 19); that the flags stay is the spec's decision D7 (log entry 27). -/
def Obligations.MovCopiesRegisterToRegister : Prop :=
  ∀ (dst src : Reg) (s : State),
    encode (Instr.movRR dst src) = [byteOf (0x40 + 8 * regCode dst + regCode src)] ∧
      ∃ t, exec (Instr.movRR dst src) s = .next t ∧ t.reg dst = s.reg src ∧ RegsKept s t [dst] ∧ MemKept s t [] ∧
        PlainKept s t ∧ Cost s t 5

/-- `MOV r,M` (R102): the address is HL before the write. The opcodes and register codes are general knowledge (log entry
19); that the flags stay is the spec's decision D7 (log entry 27). -/
def Obligations.MovLoadsRegisterFromMemory : Prop :=
  ∀ (dst : Reg) (s : State),
    encode (Instr.movRM dst) = [byteOf (0x46 + 8 * regCode dst)] ∧
      ∃ t, exec (Instr.movRM dst) s = .next t ∧ t.reg dst = s.read8 (pairValue s .hl) ∧ RegsKept s t [dst] ∧
        MemKept s t [] ∧ PlainKept s t ∧ Cost s t 7

/-- `MOV M,r` (R103) and `MVI M,d8` (R105): the byte at HL, and nothing else. Memory is in its canonical form. MVI M's 10
cycles are general knowledge (log entry 20). -/
def Obligations.MovAndMviStoreAtHl : Prop :=
  ∀ s : State, s.mem.wf = true →
    (∀ src : Reg,
      encode (Instr.movMR src) = [byteOf (0x70 + regCode src)] ∧
        ∃ t, exec (Instr.movMR src) s = .next t ∧ t.read8 (pairValue s .hl) = s.reg src ∧ RegsKept s t [] ∧
          MemKept s t [pairValue s .hl] ∧ PlainKept s t ∧ Cost s t 7) ∧
    ∀ v : Byte,
      encode (.mviM v) = [0x36, v] ∧
        ∃ t, exec (.mviM v) s = .next t ∧ t.read8 (pairValue s .hl) = v ∧ RegsKept s t [] ∧
          MemKept s t [pairValue s .hl] ∧ PlainKept s t ∧ Cost s t 10

/-- `MVI r,d8` (R104). The 7 cycles are general knowledge (log entry 20). -/
def Obligations.MviLoadsRegister : Prop :=
  ∀ (dst : Reg) (v : Byte) (s : State),
    encode (Instr.mviR dst v) = [byteOf (0x06 + 8 * regCode dst), v] ∧
      ∃ t, exec (Instr.mviR dst v) s = .next t ∧ t.reg dst = v ∧ RegsKept s t [dst] ∧ MemKept s t [] ∧
        PlainKept s t ∧ Cost s t 7

/-- `LXI rp,d16` (R106): the low byte of the operand goes to the pair's second letter; `LXI SP` writes SP. The opcodes and
the pair codes 1 to 3 are general knowledge (log entry 19); that the flags stay is the spec's decision D7 (log entry 27). -/
def Obligations.LxiLoadsPair : Prop :=
  ∀ (p : RP) (lo hi : Byte) (s : State),
    encode (Instr.lxi p (wordOf hi lo)) = [byteOf (0x01 + 16 * rpCode p), lo, hi] ∧
      ∃ t, exec (Instr.lxi p (wordOf hi lo)) s = .next t ∧ MemKept s t [] ∧ t.pc = s.pc ∧ t.flags = s.flags ∧
        SystemKept s t ∧ Cost s t 10 ∧
        match p with
        | .pair .bc => t.reg .c = lo ∧ t.reg .b = hi ∧ RegsKept s t [.b, .c] ∧ t.sp = s.sp
        | .pair .de => t.reg .e = lo ∧ t.reg .d = hi ∧ RegsKept s t [.d, .e] ∧ t.sp = s.sp
        | .pair .hl => t.reg .l = lo ∧ t.reg .h = hi ∧ RegsKept s t [.h, .l] ∧ t.sp = s.sp
        | .sp => t.sp = wordOf hi lo ∧ RegsKept s t []

/-- `LDA a16` (R107) and `LHLD a16` (R109): L from the lower address, H from the next, modulo 2^16. Which byte is L is
general knowledge (log entry 19). -/
def Obligations.LdaAndLhldLoadDirect : Prop :=
  ∀ (w : Word) (s : State),
    (encode (.lda w) = [0x3A, lo8 w, hi8 w] ∧
      ∃ t, exec (.lda w) s = .next t ∧ t.reg .a = s.read8 w ∧ RegsKept s t [.a] ∧ MemKept s t [] ∧ PlainKept s t ∧
        Cost s t 13) ∧
    encode (.lhld w) = [0x2A, lo8 w, hi8 w] ∧
      ∃ t, exec (.lhld w) s = .next t ∧ t.reg .l = s.read8 w ∧ t.reg .h = s.read8 (w + 1) ∧
        RegsKept s t [.h, .l] ∧ MemKept s t [] ∧ PlainKept s t ∧ Cost s t 16

/-- `STA a16` (R108) and `SHLD a16` (R110): L at the lower address, H at the next, modulo 2^16. Which byte is L is general
knowledge (log entry 19). -/
def Obligations.StaAndShldStoreDirect : Prop :=
  ∀ (w : Word) (s : State), s.mem.wf = true →
    (encode (.sta w) = [0x32, lo8 w, hi8 w] ∧
      ∃ t, exec (.sta w) s = .next t ∧ t.read8 w = s.reg .a ∧ RegsKept s t [] ∧ MemKept s t [w] ∧ PlainKept s t ∧
        Cost s t 13) ∧
    encode (.shld w) = [0x22, lo8 w, hi8 w] ∧
      ∃ t, exec (.shld w) s = .next t ∧ t.read8 w = s.reg .l ∧ t.read8 (w + 1) = s.reg .h ∧ RegsKept s t [] ∧
        MemKept s t [w, w + 1] ∧ PlainKept s t ∧ Cost s t 16

/-- `LDAX` (R111) and `STAX` (R112): A and the byte at BC or DE. The 7 cycles are general knowledge (log entry 20). -/
def Obligations.LdaxAndStaxUseBcOrDe : Prop :=
  ∀ (p : AddrPair) (s : State), s.mem.wf = true →
    (encode (Instr.ldax p) = [byteOf (0x0A + 16 * addrCode p)] ∧
      ∃ t, exec (Instr.ldax p) s = .next t ∧ t.reg .a = s.read8 (addrValue s p) ∧ RegsKept s t [.a] ∧
        MemKept s t [] ∧ PlainKept s t ∧ Cost s t 7) ∧
    encode (Instr.stax p) = [byteOf (0x02 + 16 * addrCode p)] ∧
      ∃ t, exec (Instr.stax p) s = .next t ∧ t.read8 (addrValue s p) = s.reg .a ∧ RegsKept s t [] ∧
        MemKept s t [addrValue s p] ∧ PlainKept s t ∧ Cost s t 7

/-- `XCHG` (R113): HL and DE swap. The opcode 0xEB is general knowledge (log entry 19); that the flags stay is the spec's
decision D7 (log entry 27). -/
def Obligations.XchgSwapsHlWithDe : Prop :=
  ∀ s : State, encode .xchg = [0xEB] ∧
    ∃ t, exec .xchg s = .next t ∧ t.reg .h = s.reg .d ∧ t.reg .d = s.reg .h ∧ t.reg .l = s.reg .e ∧
      t.reg .e = s.reg .l ∧ RegsKept s t [.h, .l, .d, .e] ∧ MemKept s t [] ∧ PlainKept s t ∧ Cost s t 5

/-- `XTHL` (R114): HL and the word at SP swap; SP stays. Which byte is L is general knowledge (log entry 19). -/
def Obligations.XthlSwapsHlWithTopOfStack : Prop :=
  ∀ s : State, s.mem.wf = true → encode .xthl = [0xE3] ∧
    ∃ t, exec .xthl s = .next t ∧ t.reg .l = s.read8 s.sp ∧ t.reg .h = s.read8 (s.sp + 1) ∧
      t.read8 s.sp = s.reg .l ∧ t.read8 (s.sp + 1) = s.reg .h ∧ RegsKept s t [.h, .l] ∧
      MemKept s t [s.sp, s.sp + 1] ∧ PlainKept s t ∧ Cost s t 18

/-- `SPHL` (R115) and `PCHL` (R116): HL to SP, HL to PC. The 5 cycles are general knowledge (log entry 20). -/
def Obligations.SphlAndPchlCopyHl : Prop :=
  ∀ s : State,
    (encode .sphl = [0xF9] ∧
      ∃ t, exec .sphl s = .next t ∧ t.sp = pairValue s .hl ∧ RegsKept s t [] ∧ MemKept s t [] ∧ t.pc = s.pc ∧
        t.flags = s.flags ∧ SystemKept s t ∧ Cost s t 5) ∧
    encode .pchl = [0xE9] ∧
      ∃ t, exec .pchl s = .next t ∧ t.pc = pairValue s .hl ∧ RegsKept s t [] ∧ MemKept s t [] ∧ t.sp = s.sp ∧
        t.flags = s.flags ∧ SystemKept s t ∧ Cost s t 5

/-! ## Arithmetic -/

/-- `ADD`, `ADC`, `ADI`, `ACI` (R120, R122 to R125): A, all five flags, cycles, and nothing else. The carry-in's part in CY
and AC is the spec's decision D8 (log entry 28); the cycles and ADC's formula are general knowledge (log entries 19, 20). -/
def Obligations.AdditionsSetAAndAllFlags : Prop :=
  ∀ s : State,
    (∀ x : R8,
      (encode (Instr.alu .add x) = [byteOf (0x80 + r8Code x)] ∧
        ∃ t, exec (Instr.alu .add x) s = .next t ∧ Added s t (r8Value s x) 0 ∧ AccKept s t [.a] ∧
          Cost s t (if x = .m then 7 else 4)) ∧
      encode (Instr.alu .adc x) = [byteOf (0x88 + r8Code x)] ∧
        ∃ t, exec (Instr.alu .adc x) s = .next t ∧ Added s t (r8Value s x) (num s.flags.cy) ∧ AccKept s t [.a] ∧
          Cost s t (if x = .m then 7 else 4)) ∧
    ∀ v : Byte,
      (encode (.adi v) = [0xC6, v] ∧
        ∃ t, exec (.adi v) s = .next t ∧ Added s t v 0 ∧ AccKept s t [.a] ∧ Cost s t 7) ∧
      encode (.aci v) = [0xCE, v] ∧
        ∃ t, exec (.aci v) s = .next t ∧ Added s t v (num s.flags.cy) ∧ AccKept s t [.a] ∧ Cost s t 7

/-- `SUB`, `SBB`, `SUI`, `SBI` (R121, R126 to R129): A, all five flags, cycles, and nothing else. AC is the nibble borrow,
the spec's decision D5 (log entry 4); the borrow-in's part is its decision D8 (log entry 28); the cycles and SBB's formula
are general knowledge (log entries 19, 20). -/
def Obligations.SubtractionsSetAAndAllFlags : Prop :=
  ∀ s : State,
    (∀ x : R8,
      (encode (Instr.alu .sub x) = [byteOf (0x90 + r8Code x)] ∧
        ∃ t, exec (Instr.alu .sub x) s = .next t ∧ Subtracted s t (r8Value s x) 0 ∧ AccKept s t [.a] ∧
          Cost s t (if x = .m then 7 else 4)) ∧
      encode (Instr.alu .sbb x) = [byteOf (0x98 + r8Code x)] ∧
        ∃ t, exec (Instr.alu .sbb x) s = .next t ∧ Subtracted s t (r8Value s x) (num s.flags.cy) ∧
          AccKept s t [.a] ∧ Cost s t (if x = .m then 7 else 4)) ∧
    ∀ v : Byte,
      (encode (.sui v) = [0xD6, v] ∧
        ∃ t, exec (.sui v) s = .next t ∧ Subtracted s t v 0 ∧ AccKept s t [.a] ∧ Cost s t 7) ∧
      encode (.sbi v) = [0xDE, v] ∧
        ∃ t, exec (.sbi v) s = .next t ∧ Subtracted s t v (num s.flags.cy) ∧ AccKept s t [.a] ∧ Cost s t 7

/-- `INR` and `DCR` (R130, R131): the operand, Z S P AC from it, CY unchanged, and nothing else. That CY stays is the spec's
decision D7, DCR's AC its decision D5 (log entries 4, 27). The cycles are general knowledge (log entry 20). -/
def Obligations.InrAndDcrStepTheOperand : Prop :=
  ∀ (x : R8) (s : State), s.mem.wf = true →
    (encode (Instr.inr x) = [byteOf (0x04 + 8 * r8Code x)] ∧
      ∃ t, exec (Instr.inr x) s = .next t ∧
        (match x with
          | .reg r => (t.reg r).toNat = ((s.reg r).toNat + 1) % 256 ∧ ZspOf t.flags (t.reg r)
          | .m => (t.read8 (pairValue s .hl)).toNat = ((s.read8 (pairValue s .hl)).toNat + 1) % 256 ∧
              ZspOf t.flags (t.read8 (pairValue s .hl))) ∧
        (t.flags.ac = true ↔ (r8Value s x).toNat % 16 = 15) ∧ t.flags.cy = s.flags.cy ∧
        RegsKept s t (r8Regs x) ∧ MemKept s t (r8Stored s x) ∧ t.sp = s.sp ∧ t.pc = s.pc ∧ SystemKept s t ∧
        Cost s t (if x = .m then 10 else 5)) ∧
    encode (Instr.dcr x) = [byteOf (0x05 + 8 * r8Code x)] ∧
      ∃ t, exec (Instr.dcr x) s = .next t ∧
        (match x with
          | .reg r => (t.reg r).toNat = ((s.reg r).toNat + 255) % 256 ∧ ZspOf t.flags (t.reg r)
          | .m => (t.read8 (pairValue s .hl)).toNat = ((s.read8 (pairValue s .hl)).toNat + 255) % 256 ∧
              ZspOf t.flags (t.read8 (pairValue s .hl))) ∧
        (t.flags.ac = true ↔ (r8Value s x).toNat % 16 = 0) ∧ t.flags.cy = s.flags.cy ∧
        RegsKept s t (r8Regs x) ∧ MemKept s t (r8Stored s x) ∧ t.sp = s.sp ∧ t.pc = s.pc ∧ SystemKept s t ∧
        Cost s t (if x = .m then 10 else 5)

/-- `INX` and `DCX` (R132, R133): the pair or SP by one, modulo 2^16, with no flag written (the spec's decision D7) (log
entry 27); DCX's 5 cycles are general knowledge (log entry 20). -/
def Obligations.InxAndDcxStepThePair : Prop :=
  ∀ (p : RP) (s : State),
    (encode (Instr.inx p) = [byteOf (0x03 + 16 * rpCode p)] ∧
      ∃ t, exec (Instr.inx p) s = .next t ∧ (rpValue t p).toNat = ((rpValue s p).toNat + 1) % 65536 ∧
        (match p with
          | .pair q => RegsKept s t (pairRegs q) ∧ t.sp = s.sp
          | .sp => RegsKept s t []) ∧
        MemKept s t [] ∧ t.pc = s.pc ∧ t.flags = s.flags ∧ SystemKept s t ∧ Cost s t 5) ∧
    encode (Instr.dcx p) = [byteOf (0x0B + 16 * rpCode p)] ∧
      ∃ t, exec (Instr.dcx p) s = .next t ∧ (rpValue t p).toNat = ((rpValue s p).toNat + 65535) % 65536 ∧
        (match p with
          | .pair q => RegsKept s t (pairRegs q) ∧ t.sp = s.sp
          | .sp => RegsKept s t []) ∧
        MemKept s t [] ∧ t.pc = s.pc ∧ t.flags = s.flags ∧ SystemKept s t ∧ Cost s t 5

/-- `DAD rp` (R134): HL and CY, and nothing else. The opcodes and the pair codes 1 to 3 are general knowledge (log entry
19). -/
def Obligations.DadAddsPairToHl : Prop :=
  ∀ (p : RP) (s : State),
    encode (Instr.dad p) = [byteOf (0x09 + 16 * rpCode p)] ∧
      ∃ t, exec (Instr.dad p) s = .next t ∧
        (pairValue t .hl).toNat = ((pairValue s .hl).toNat + (rpValue s p).toNat) % 65536 ∧
        (t.flags.cy = true ↔ 65535 < (pairValue s .hl).toNat + (rpValue s p).toNat) ∧ OnlyCy s t ∧
        RegsKept s t [.h, .l] ∧ MemKept s t [] ∧ t.sp = s.sp ∧ t.pc = s.pc ∧ SystemKept s t ∧ Cost s t 10

/-- `DAA` (R135): its two sequential steps agree with the closed form the rule derives, for every A, AC and CY. The choices
about AC and CY are the spec's decision D6 (log entry 5). The 4 cycles are general knowledge (log entry 20). -/
def Obligations.DaaMeetsItsClosedForm : Prop :=
  ∀ s : State, encode .daa = [0x27] ∧
    ∃ t, exec .daa s = .next t ∧
      (let lsb := accNum s % 16
       let msb := accNum s / 16
       let low := 9 < lsb ∨ s.flags.ac = true
       let high := 9 < msb ∨ s.flags.cy = true ∨ (9 ≤ msb ∧ 9 < lsb)
       ∀ corr : Nat,
        ((low ∧ high ∧ corr = 0x66) ∨ (low ∧ ¬high ∧ corr = 0x06) ∨ (¬low ∧ high ∧ corr = 0x60) ∨
          (¬low ∧ ¬high ∧ corr = 0)) →
        accNum t = (accNum s + corr) % 256 ∧ (t.flags.cy = true ↔ high) ∧
          (t.flags.ac = true ↔ 15 < lsb + corr % 16)) ∧
      ZspOf t.flags (t.reg .a) ∧ AccKept s t [.a] ∧ Cost s t 4

/-! ## Logic, rotates, compare -/

/-- `ANA` and `ANI` (R151, R152): CY cleared, AC the OR of bit 3 of A and the operand, Z S P from the result. ANI's AC is read
from the rule the document gives for both (log entry 26, DEDUCED, unsafe). The cycles are general knowledge (log entry 20). -/
def Obligations.AndSetsAAndAllFlags : Prop :=
  ∀ s : State,
    (∀ x : R8,
      encode (Instr.alu .ana x) = [byteOf (0xA0 + r8Code x)] ∧
        ∃ t, exec (Instr.alu .ana x) s = .next t ∧
          (∀ k : Nat, (t.reg .a).getLsbD k = ((s.reg .a).getLsbD k && (r8Value s x).getLsbD k)) ∧
          t.flags.ac = ((s.reg .a).getLsbD 3 || (r8Value s x).getLsbD 3) ∧ t.flags.cy = false ∧
          ZspOf t.flags (t.reg .a) ∧ AccKept s t [.a] ∧ Cost s t (if x = .m then 7 else 4)) ∧
    ∀ v : Byte,
      encode (.ani v) = [0xE6, v] ∧
        ∃ t, exec (.ani v) s = .next t ∧
          (∀ k : Nat, (t.reg .a).getLsbD k = ((s.reg .a).getLsbD k && v.getLsbD k)) ∧
          t.flags.ac = ((s.reg .a).getLsbD 3 || v.getLsbD 3) ∧ t.flags.cy = false ∧ ZspOf t.flags (t.reg .a) ∧
          AccKept s t [.a] ∧ Cost s t 7

/-- `XRA`, `XRI`, `ORA`, `ORI` (R153 to R156): CY and AC cleared, Z S P from the result. The cycles are general knowledge
(log entry 20). -/
def Obligations.XorAndOrSetAAndAllFlags : Prop :=
  ∀ s : State,
    (∀ x : R8,
      (encode (Instr.alu .xra x) = [byteOf (0xA8 + r8Code x)] ∧
        ∃ t, exec (Instr.alu .xra x) s = .next t ∧
          (∀ k : Nat, (t.reg .a).getLsbD k = ((s.reg .a).getLsbD k ^^ (r8Value s x).getLsbD k)) ∧
          t.flags.ac = false ∧ t.flags.cy = false ∧ ZspOf t.flags (t.reg .a) ∧ AccKept s t [.a] ∧
          Cost s t (if x = .m then 7 else 4)) ∧
      encode (Instr.alu .ora x) = [byteOf (0xB0 + r8Code x)] ∧
        ∃ t, exec (Instr.alu .ora x) s = .next t ∧
          (∀ k : Nat, (t.reg .a).getLsbD k = ((s.reg .a).getLsbD k || (r8Value s x).getLsbD k)) ∧
          t.flags.ac = false ∧ t.flags.cy = false ∧ ZspOf t.flags (t.reg .a) ∧ AccKept s t [.a] ∧
          Cost s t (if x = .m then 7 else 4)) ∧
    ∀ v : Byte,
      (encode (.xri v) = [0xEE, v] ∧
        ∃ t, exec (.xri v) s = .next t ∧
          (∀ k : Nat, (t.reg .a).getLsbD k = ((s.reg .a).getLsbD k ^^ v.getLsbD k)) ∧ t.flags.ac = false ∧
          t.flags.cy = false ∧ ZspOf t.flags (t.reg .a) ∧ AccKept s t [.a] ∧ Cost s t 7) ∧
      encode (.ori v) = [0xF6, v] ∧
        ∃ t, exec (.ori v) s = .next t ∧
          (∀ k : Nat, (t.reg .a).getLsbD k = ((s.reg .a).getLsbD k || v.getLsbD k)) ∧ t.flags.ac = false ∧
          t.flags.cy = false ∧ ZspOf t.flags (t.reg .a) ∧ AccKept s t [.a] ∧ Cost s t 7

/-- `CMA`, `CMC`, `STC` (R157 to R159). That CMC and STC leave the other flags is the spec's decision D7 (log entry 27). The
4 cycles are general knowledge (log entry 20). -/
def Obligations.CmaCmcStc : Prop :=
  ∀ s : State,
    (encode .cma = [0x2F] ∧
      ∃ t, exec .cma s = .next t ∧ accNum t = 255 - accNum s ∧ t.flags = s.flags ∧ AccKept s t [.a] ∧ Cost s t 4) ∧
    (encode .cmc = [0x3F] ∧
      ∃ t, exec .cmc s = .next t ∧ num t.flags.cy = 1 - num s.flags.cy ∧ OnlyCy s t ∧ AccKept s t [] ∧ Cost s t 4) ∧
    encode .stc = [0x37] ∧
      ∃ t, exec .stc s = .next t ∧ t.flags.cy = true ∧ OnlyCy s t ∧ AccKept s t [] ∧ Cost s t 4

/-- `RLC`, `RRC`, `RAL`, `RAR` (R171 to R174), bit by bit: A and CY, and nothing else (R170; that S, Z, AC and P stay is the
spec's decision D7, log entry 27). The 4 cycles are general knowledge (log entry 20). -/
def Obligations.RotatesMoveEveryBit : Prop :=
  ∀ s : State,
    (encode .rlc = [0x07] ∧
      ∃ t, exec .rlc s = .next t ∧ (∀ k : Nat, k < 7 → (t.reg .a).getLsbD (k + 1) = (s.reg .a).getLsbD k) ∧
        (t.reg .a).getLsbD 0 = (s.reg .a).getLsbD 7 ∧ t.flags.cy = (s.reg .a).getLsbD 7 ∧ OnlyCy s t ∧
        AccKept s t [.a] ∧ Cost s t 4) ∧
    (encode .rrc = [0x0F] ∧
      ∃ t, exec .rrc s = .next t ∧ (∀ k : Nat, k < 7 → (t.reg .a).getLsbD k = (s.reg .a).getLsbD (k + 1)) ∧
        (t.reg .a).getLsbD 7 = (s.reg .a).getLsbD 0 ∧ t.flags.cy = (s.reg .a).getLsbD 0 ∧ OnlyCy s t ∧
        AccKept s t [.a] ∧ Cost s t 4) ∧
    (encode .ral = [0x17] ∧
      ∃ t, exec .ral s = .next t ∧ (∀ k : Nat, k < 7 → (t.reg .a).getLsbD (k + 1) = (s.reg .a).getLsbD k) ∧
        (t.reg .a).getLsbD 0 = s.flags.cy ∧ t.flags.cy = (s.reg .a).getLsbD 7 ∧ OnlyCy s t ∧ AccKept s t [.a] ∧
        Cost s t 4) ∧
    encode .rar = [0x1F] ∧
      ∃ t, exec .rar s = .next t ∧ (∀ k : Nat, k < 7 → (t.reg .a).getLsbD k = (s.reg .a).getLsbD (k + 1)) ∧
        (t.reg .a).getLsbD 7 = s.flags.cy ∧ t.flags.cy = (s.reg .a).getLsbD 0 ∧ OnlyCy s t ∧ AccKept s t [.a] ∧
        Cost s t 4

/-- `CMP` and `CPI` (R180 to R182): the flags of a subtraction with no borrow-in; A and every other register stay. AC is the
spec's decision D5 (log entry 4). The cycles are general knowledge (log entry 20). -/
def Obligations.ComparesSetFlagsAndKeepA : Prop :=
  ∀ s : State,
    (∀ x : R8,
      encode (Instr.alu .cmp x) = [byteOf (0xB8 + r8Code x)] ∧
        ∃ t, exec (Instr.alu .cmp x) s = .next t ∧ Borrowed t.flags (s.reg .a) (r8Value s x) 0 ∧
          ZspOf t.flags (difference (s.reg .a) (r8Value s x) 0) ∧ (t.flags.z = true ↔ s.reg .a = r8Value s x) ∧
          AccKept s t [] ∧ Cost s t (if x = .m then 7 else 4)) ∧
    ∀ v : Byte,
      encode (.cpi v) = [0xFE, v] ∧
        ∃ t, exec (.cpi v) s = .next t ∧ Borrowed t.flags (s.reg .a) v 0 ∧
          ZspOf t.flags (difference (s.reg .a) v 0) ∧ (t.flags.z = true ↔ s.reg .a = v) ∧ AccKept s t [] ∧ Cost s t 7

/-! ## Branches and the stack -/

/-- `JMP` and its alias 0xCB (R191), `Jcc` (R192): 10 cycles, taken or not. The opcodes, the condition codes, the senses of
seven conditions (R16, R190) and the pairing of 0xCB with JMP (R77) are general knowledge (log entry 19); that the flags stay is
the spec's decision D7 (log entry 27). -/
def Obligations.JumpsWritePcOnly : Prop :=
  ∀ (w : Word) (s : State),
    encode (.jmp w) = [0xC3, lo8 w, hi8 w] ∧ encode (.jmpAliasCB w) = [0xCB, lo8 w, hi8 w] ∧
    (∀ i : Instr, i = .jmp w ∨ i = .jmpAliasCB w →
      ∃ t, exec i s = .next t ∧ t.pc = w ∧ t.sp = s.sp ∧ MemKept s t [] ∧ BranchKept s t ∧ Cost s t 10) ∧
    ∀ k : Cond,
      encode (Instr.jumpIf k w) = [byteOf (0xC2 + 8 * condCode k), lo8 w, hi8 w] ∧
        ∃ t, exec (Instr.jumpIf k w) s = .next t ∧ (condTrue s.flags k → t.pc = w) ∧
          (¬condTrue s.flags k → t.pc = s.pc) ∧ t.sp = s.sp ∧ MemKept s t [] ∧ BranchKept s t ∧ Cost s t 10

/-- `CALL` and its aliases 0xDD, 0xED, 0xFD (R193): the address of the next instruction is pushed. The pairing of the three
aliases with CALL (R77) is general knowledge (log entry 19); that the flags stay is the spec's decision D7 (log entry 27). -/
def Obligations.CallPushesReturnAddress : Prop :=
  ∀ (w : Word) (s : State), s.mem.wf = true →
    encode (.call w) = [0xCD, lo8 w, hi8 w] ∧ encode (.callAliasDD w) = [0xDD, lo8 w, hi8 w] ∧
    encode (.callAliasED w) = [0xED, lo8 w, hi8 w] ∧ encode (.callAliasFD w) = [0xFD, lo8 w, hi8 w] ∧
    ∀ i : Instr, i = .call w ∨ i = .callAliasDD w ∨ i = .callAliasED w ∨ i = .callAliasFD w →
      ∃ t, exec i s = .next t ∧ t.pc = w ∧ PushedWord s t s.pc ∧ BranchKept s t ∧ Cost s t 17

/-- `Ccc` (R194): a call in 17 cycles when the condition holds; otherwise 11 cycles, nothing pushed and PC past the
instruction. The condition codes and the senses of seven conditions (R16, R190) are general knowledge (log entry 19); that the
flags stay is the spec's decision D7 (log entry 27). -/
def Obligations.ConditionalCallTakenOrNot : Prop :=
  ∀ (k : Cond) (w : Word) (s : State), s.mem.wf = true →
    encode (Instr.callIf k w) = [byteOf (0xC4 + 8 * condCode k), lo8 w, hi8 w] ∧
      ∃ t, exec (Instr.callIf k w) s = .next t ∧ BranchKept s t ∧
        (condTrue s.flags k → t.pc = w ∧ PushedWord s t s.pc ∧ Cost s t 17) ∧
        (¬condTrue s.flags k → t.pc = s.pc ∧ t.sp = s.sp ∧ MemKept s t [] ∧ Cost s t 11)

/-- `RET` and its alias 0xD9 (R195), `Rcc` (R196): the word at SP to PC, SP raised by two; not taken, 5 cycles and nothing
else. The condition codes, the senses of seven conditions (R16) and the pairing of 0xD9 with RET (R77) are general knowledge (log
entry 19); that the flags stay is the spec's decision D7 (log entry 27). -/
def Obligations.ReturnsPopPc : Prop :=
  ∀ s : State,
    encode .ret = [0xC9] ∧ encode .retAliasD9 = [0xD9] ∧
    (∀ i : Instr, i = .ret ∨ i = .retAliasD9 →
      ∃ t, exec i s = .next t ∧ t.pc = topOfStack s ∧ t.sp = s.sp + 2 ∧ MemKept s t [] ∧ BranchKept s t ∧
        Cost s t 10) ∧
    ∀ k : Cond,
      encode (Instr.retIf k) = [byteOf (0xC0 + 8 * condCode k)] ∧
        ∃ t, exec (Instr.retIf k) s = .next t ∧ MemKept s t [] ∧ BranchKept s t ∧
          (condTrue s.flags k → t.pc = topOfStack s ∧ t.sp = s.sp + 2 ∧ Cost s t 11) ∧
          (¬condTrue s.flags k → t.pc = s.pc ∧ t.sp = s.sp ∧ Cost s t 5)

/-- `RST n` (R197): the address of the next instruction is pushed and control goes to 8n; IE is not touched.
The opcodes 11nnn111 are general knowledge (log entry 19); that the flags stay is the spec's decision D7 (log entry 27). -/
def Obligations.RstCallsItsVector : Prop :=
  ∀ (n : Fin 8) (s : State), s.mem.wf = true →
    encode (Instr.rst n) = [byteOf (0xC7 + 8 * n.val)] ∧
      ∃ t, exec (Instr.rst n) s = .next t ∧ t.pc.toNat = 8 * n.val ∧ PushedWord s t s.pc ∧ BranchKept s t ∧
        Cost s t 11

/-- `PUSH rp` (R221) and `PUSH PSW` (R222): two bytes below SP; the status byte has bit 1 set and bits 3 and 5 clear. Which
register lies higher and the 11 cycles are general knowledge (log entries 19, 20). -/
def Obligations.PushStoresBelowSp : Prop :=
  ∀ s : State, s.mem.wf = true →
    (∀ p : Pair,
      encode (Instr.push p) = [byteOf (0xC5 + 16 * pairCode p)] ∧
        ∃ t, exec (Instr.push p) s = .next t ∧ PushedWord s t (pairValue s p) ∧ t.pc = s.pc ∧ BranchKept s t ∧
          Cost s t 11) ∧
    encode .pushPsw = [0xF5] ∧
      ∃ t, exec .pushPsw s = .next t ∧ t.read8 (s.sp - 1) = s.reg .a ∧
        (t.read8 (s.sp - 2)).toNat =
          128 * num s.flags.s + 64 * num s.flags.z + 16 * num s.flags.ac + 4 * num s.flags.p + 2 + num s.flags.cy ∧
        t.sp = s.sp - 2 ∧ MemKept s t [s.sp - 1, s.sp - 2] ∧ t.pc = s.pc ∧ BranchKept s t ∧ Cost s t 11

/-- `POP rp` (R223) and `POP PSW` (R224): two bytes at SP; bits 5, 3 and 1 of the status byte are ignored. Which register
lies higher and the 10 cycles are general knowledge (log entries 19, 20). -/
def Obligations.PopLoadsFromSp : Prop :=
  ∀ s : State,
    (∀ p : Pair,
      encode (Instr.pop p) = [byteOf (0xC1 + 16 * pairCode p)] ∧
        ∃ t, exec (Instr.pop p) s = .next t ∧ pairValue t p = topOfStack s ∧ RegsKept s t (pairRegs p) ∧
          t.sp = s.sp + 2 ∧ MemKept s t [] ∧ t.pc = s.pc ∧ t.flags = s.flags ∧ SystemKept s t ∧ Cost s t 10) ∧
    encode .popPsw = [0xF1] ∧
      ∃ t, exec .popPsw s = .next t ∧ t.reg .a = s.read8 (s.sp + 1) ∧
        t.flags.s = (s.read8 s.sp).getLsbD 7 ∧ t.flags.z = (s.read8 s.sp).getLsbD 6 ∧
        t.flags.ac = (s.read8 s.sp).getLsbD 4 ∧ t.flags.p = (s.read8 s.sp).getLsbD 2 ∧
        t.flags.cy = (s.read8 s.sp).getLsbD 0 ∧ RegsKept s t [.a] ∧ t.sp = s.sp + 2 ∧ MemKept s t [] ∧
        t.pc = s.pc ∧ SystemKept s t ∧ Cost s t 10

/-- The flag helpers and the packed status byte (R17, R25, R26): parity is 1 on an even number of 1 bits, SetZSP takes Z, S and
P from its byte; each flag stands in its bit, bit 1 always set, bits 3 and 5 always clear; unpacking reads the same bits and
ignores the other three; PUSH PSW reads the packed byte, POP PSW unpacks one, and the one after the other is the identity on the
flags. -/
def Obligations.FlagHelpersAndStatusByte : Prop :=
  (∀ (v : Byte) (ac cy : Bool),
    (parity v = true ↔ ones v % 2 = 0) ∧ ZspOf (flagsOf v ac cy) v ∧ (flagsOf v ac cy).ac = ac ∧
      (flagsOf v ac cy).cy = cy) ∧
  pswByte ⟨false, false, false, false, false⟩ = 0x02 ∧ pswByte ⟨true, true, true, true, true⟩ = 0xD7 ∧
  (∀ s : State,
    (∃ t, exec .popPsw s = .next t ∧ t.flags = flagsOfPsw (s.read8 s.sp)) ∧
    (s.mem.wf = true →
      ∃ t u, exec .pushPsw s = .next t ∧ t.read8 (s.sp - 2) = pswByte s.flags ∧ exec .popPsw t = .next u ∧
        u.flags = s.flags)) ∧
  (∀ f : Flags,
    (pswByte f).getLsbD 7 = f.s ∧ (pswByte f).getLsbD 6 = f.z ∧ (pswByte f).getLsbD 5 = false ∧
      (pswByte f).getLsbD 4 = f.ac ∧ (pswByte f).getLsbD 3 = false ∧ (pswByte f).getLsbD 2 = f.p ∧
      (pswByte f).getLsbD 1 = true ∧ (pswByte f).getLsbD 0 = f.cy ∧ flagsOfPsw (pswByte f) = f) ∧
    ∀ b b' : Byte,
      flagsOfPsw b = ⟨b.getLsbD 7, b.getLsbD 6, b.getLsbD 4, b.getLsbD 2, b.getLsbD 0⟩ ∧
        ((∀ k : Nat, k ≠ 1 → k ≠ 3 → k ≠ 5 → b.getLsbD k = b'.getLsbD k) → flagsOfPsw b = flagsOfPsw b')

/-! ## I/O and control -/

/-- `IN d8` in the cabinet (R232, R262 to R266): A from the port, and nothing else; ports other than 1, 2 and 3 read 0x00.
The attachment and the full decode are the spec's decisions D12 and D27 (log entry 8). That A receives the byte and the 10
cycles are general knowledge (log entries 19, 20). -/
def Obligations.InReadsTheCabinetBus : Prop :=
  ∀ (p : Byte) (s : State), s.env.input = .cabinetBus →
    encode (.inPort p) = [0xDB, p] ∧
      ∃ t, exec (.inPort p) s = .next t ∧ RegsKept s t [.a] ∧ MemKept s t [] ∧ PlainKept s t ∧ Cost s t 10 ∧
        (p.toNat = 1 → t.reg .a = s.bus.in1) ∧ (p.toNat = 2 → t.reg .a = s.bus.in2) ∧
        (p.toNat = 3 →
          accNum t = (s.bus.shiftH.toNat * 256 + s.bus.shiftL.toNat) / 2 ^ (8 - s.bus.offset.toNat) % 256) ∧
        (p.toNat = 0 ∨ 4 ≤ p.toNat → accNum t = 0)

/-- The shift register's ports (R265, R267, R268): what reading port 3 gives, in each of the rule's forms and in its worked
example; a write of port 2 sets the shift amount and nothing else; a write of port 4 moves the high half to the low half and
loads the high half, and two writes load the whole register. -/
def Obligations.ShiftRegisterPortsFollowTheirRules : Prop :=
  ∀ (s : State) (v x y : Byte),
    ((portRead s 0x03).toNat = (s.bus.shiftH.toNat * 256 + s.bus.shiftL.toNat) / 2 ^ (8 - s.bus.offset.toNat) % 256 ∧
      portRead s 0x03 = (s.bus.shiftH <<< s.bus.offset.toNat) ||| (s.bus.shiftL >>> (8 - s.bus.offset.toNat)) ∧
      (∀ k : Nat, k < 8 →
        (portRead s 0x03).getLsbD k = (wordOf s.bus.shiftH s.bus.shiftL).getLsbD (8 - s.bus.offset.toNat + k)) ∧
      (s.bus.offset = 0 → portRead s 0x03 = s.bus.shiftH) ∧
      (s.bus.offset = 7 →
        (portRead s 0x03).toNat = s.bus.shiftH.toNat % 2 * 128 + s.bus.shiftL.toNat / 2)) ∧
    portWrite s 0x02 v = { s with bus := { s.bus with offset := BitVec.ofNat 3 (v.toNat % 8) } } ∧
    portWrite s 0x04 v = { s with bus := { s.bus with shiftL := s.bus.shiftH, shiftH := v } } ∧
    (let t := portWrite (portWrite s 0x04 x) 0x04 y
     t.bus.shiftH = y ∧ t.bus.shiftL = x) ∧
    portRead (portWrite (portWrite (portWrite s 0x04 0x02) 0x04 0xAA) 0x02 0x02) 0x03 = 0xA8

/-- `OUT d8` in the cabinet (R233, R267 to R274): the offset, the shift register, the sound latches with one event for each
rising edge of a trigger bit in ascending order, and no other port. Edge detection is the spec's decision D15 (log entry 9).
The 10 cycles are general knowledge (log entry 20). -/
def Obligations.OutWritesTheCabinetBus : Prop :=
  ∀ (p : Byte) (s : State), s.env.output = .cabinetBus →
    encode (.outPort p) = [0xD3, p] ∧
      ∃ t, exec (.outPort p) s = .next t ∧ RegsKept s t [] ∧ MemKept s t [] ∧ t.sp = s.sp ∧ t.pc = s.pc ∧
        t.flags = s.flags ∧ t.ie = s.ie ∧ t.iePending = s.iePending ∧ t.driver = s.driver ∧ t.env = s.env ∧
        t.out.hostOut = s.out.hostOut ∧ Cost s t 10 ∧
        (p.toNat = 2 → t.bus = { s.bus with offset := BitVec.ofNat 3 (accNum s % 8) } ∧ t.out = s.out) ∧
        (p.toNat = 4 → t.bus = { s.bus with shiftL := s.bus.shiftH, shiftH := s.reg .a } ∧ t.out = s.out) ∧
        (p.toNat = 3 → t.bus = { s.bus with snd1Prev := s.reg .a } ∧
          t.out.events = s.out.events ++ (([0, 1, 2, 3] : List Nat).filter fun k =>
            (s.reg .a).getLsbD k && !s.bus.snd1Prev.getLsbD k).map (Event.sound 0x03)) ∧
        (p.toNat = 5 → t.bus = { s.bus with snd2Prev := s.reg .a } ∧
          t.out.events = s.out.events ++ (([0, 1, 2, 3, 4] : List Nat).filter fun k =>
            (s.reg .a).getLsbD k && !s.bus.snd2Prev.getLsbD k).map (Event.sound 0x05)) ∧
        (p.toNat = 0 ∨ p.toNat = 1 ∨ 6 ≤ p.toNat → t.bus = s.bus ∧ t.out = s.out)

/-- IN and OUT under the harness's listeners (R305, R306): IN ends the run and does not write A; OUT prints the character in E
when C = 2, the bytes from DE up to the first '$' when C = 9, and nothing otherwise. That a listener ends the run by QUIT, and
the free value printed where no byte of memory is '$', are the model's choices (log entries 12, 15); the 10 cycles are general
knowledge (log entry 20). -/
def Obligations.HarnessListenersPrintAndEndTheRun : Prop :=
  ∀ (p : Byte) (s : State),
    (s.env.input = .harness →
      ∃ t, exec (.inPort p) s = .next t ∧ t.driver = { s.driver with quit := true } ∧ RegsKept s t [] ∧
        MemKept s t [] ∧ t.sp = s.sp ∧ t.pc = s.pc ∧ t.flags = s.flags ∧ t.ie = s.ie ∧ t.iePending = s.iePending ∧
        t.bus = s.bus ∧ t.out = s.out ∧ t.env = s.env ∧ Cost s t 10 ∧ step t = .refused .runEnded) ∧
    (s.env.output = .harness →
      ∃ t, exec (.outPort p) s = .next t ∧ RegsKept s t [] ∧ MemKept s t [] ∧ t.sp = s.sp ∧ t.pc = s.pc ∧
        t.flags = s.flags ∧ t.ie = s.ie ∧ t.iePending = s.iePending ∧ t.bus = s.bus ∧ t.driver = s.driver ∧
        t.out.events = s.out.events ∧ Cost s t 10 ∧
        ((s.reg .c).toNat = 2 → t.out.hostOut = s.out.hostOut ++ [s.reg .e] ∧ t.env = s.env) ∧
        ((s.reg .c).toNat = 9 → ∀ n : Nat, n < 65536 →
          s.read8 (pairValue s .de + BitVec.ofNat 16 n) = 0x24 →
          (∀ k : Nat, k < n → s.read8 (pairValue s .de + BitVec.ofNat 16 k) ≠ 0x24) →
          t.out.hostOut = s.out.hostOut ++
            ((List.range n).map fun k => s.read8 (pairValue s .de + BitVec.ofNat 16 k)) ∧ t.env = s.env) ∧
        ((s.reg .c).toNat = 9 → (∀ a : Word, s.read8 a ≠ 0x24) →
          t.out.hostOut = s.out.hostOut ++ Config.unterminatedString s.env.freeCount ∧
            t.env = { s.env with freeCount := s.env.freeCount + 1 }) ∧
        ((s.reg .c).toNat ≠ 2 → (s.reg .c).toNat ≠ 9 → t.out = s.out ∧ t.env = s.env))

/-- IN and OUT under any other listener (R306): 10 cycles; registers, SP, PC, flags and memory are what the listener's pokes make
of them, in order, or end the run; IE, IE_PENDING, the I/O bus, the output and the rest of the driver stay. What the listener
does is a free value (log entries 14, 23); the 10 cycles are general knowledge (log entry 20). -/
def Obligations.ListenersReachTheCpuOnly : Prop :=
  ∀ (p : Byte) (s : State) (i : Instr) (r : ListenerResult),
    (i = .inPort p ∧ s.env.input = .custom ∧ r = Config.inputListener s.env.freeCount s) ∨
      (i = .outPort p ∧ s.env.output = .custom ∧ r = Config.outputListener s.env.freeCount s) →
    ∃ t, exec i s = .next t ∧ t.regs = (applyPokes s r.pokes).regs ∧ t.sp = (applyPokes s r.pokes).sp ∧
      t.pc = (applyPokes s r.pokes).pc ∧ t.flags = (applyPokes s r.pokes).flags ∧ t.mem = (applyPokes s r.pokes).mem ∧
      t.ie = s.ie ∧ t.iePending = s.iePending ∧ t.bus = s.bus ∧ t.out = s.out ∧ Cost s t 10 ∧
      t.driver = { s.driver with quit := s.driver.quit || r.terminates } ∧
      t.env = { s.env with freeCount := s.env.freeCount + 1 }

/-- `EI` (R234), `DI` (R235), `NOP` (R237) and the seven reserved NOPs (R238): 4 cycles each. The 4 cycles of EI, DI and
0x00 are general knowledge (log entry 20). -/
def Obligations.EiDiAndNops : Prop :=
  ∀ s : State,
    (encode .ei = [0xFB] ∧ ∃ t, exec .ei s = .next t ∧ t.iePending = true ∧ t.ie = s.ie ∧ RegsKept s t [] ∧
      MemKept s t [] ∧ t.sp = s.sp ∧ t.pc = s.pc ∧ t.flags = s.flags ∧ t.bus = s.bus ∧ t.driver = s.driver ∧
      t.out = s.out ∧ t.env = s.env ∧ Cost s t 4) ∧
    (encode .di = [0xF3] ∧ ∃ t, exec .di s = .next t ∧ t.ie = false ∧ t.iePending = s.iePending ∧ RegsKept s t [] ∧
      MemKept s t [] ∧ t.sp = s.sp ∧ t.pc = s.pc ∧ t.flags = s.flags ∧ t.bus = s.bus ∧ t.driver = s.driver ∧
      t.out = s.out ∧ t.env = s.env ∧ Cost s t 4) ∧
    (encode .nop = [0x00] ∧ ∃ t, exec .nop s = .next t ∧ RegsKept s t [] ∧ MemKept s t [] ∧ PlainKept s t ∧
      Cost s t 4) ∧
    ∀ i ∈ Instr.reservedNops, (∃ k : Nat, 1 ≤ k ∧ k ≤ 7 ∧ encode i = [byteOf (8 * k)]) ∧
      ∃ t, exec i s = .next t ∧ RegsKept s t [] ∧ MemKept s t [] ∧ PlainKept s t ∧ Cost s t 4

/-- `HLT` (R236): PC goes back to the address of the HLT byte, 7 cycles. The parked PC is the spec's decision D9 (log entry
6). The 7 cycles are general knowledge (log entry 20). -/
def Obligations.HltParksPc : Prop :=
  ∀ s : State, encode .hlt = [0x76] ∧
    ∃ t, exec .hlt s = .next t ∧ t.pc = s.pc - 1 ∧ RegsKept s t [] ∧ MemKept s t [] ∧ t.sp = s.sp ∧
      t.flags = s.flags ∧ SystemKept s t ∧ Cost s t 7

/-! ## Interrupts, the frame driver and the host -/

/-- `interrupt(n)` (R252): accepted when IE is set, lost when it is clear, refused outside 1..7. That IE_PENDING stays and no
cycle is charged is the spec's decision D10 (log entry 7), the refusal its decision D21. -/
def Obligations.InterruptTakenLostOrRefused : Prop :=
  ∀ (n : Nat) (s : State), s.mem.wf = true →
    (1 ≤ n → n ≤ 7 →
      ∃ t, interrupt n s = .next t ∧ (s.ie = false → t = s) ∧
        (s.ie = true → PushedWord s t s.pc ∧ t.pc.toNat = 8 * n ∧ t.ie = false ∧ RegsKept s t [] ∧
          t.flags = s.flags ∧ t.iePending = s.iePending ∧ t.cyc = s.cyc ∧ t.bus = s.bus ∧ t.driver = s.driver ∧
          t.out = s.out ∧ t.env = s.env)) ∧
    (n = 0 ∨ 7 < n → interrupt n s = .refused (.vectorOutOfRange n))

/-- An enable takes effect one instruction late (R253, R255, R307): an instruction that starts with IE_PENDING set ends with
IE set and IE_PENDING clear, but for `DI`, which ends with IE clear, and `EI`, which sets IE_PENDING again; and an instruction
that starts with both latches clear never ends with IE set. `EI` followed by `DI` is the spec's decision D11; that IN and OUT
under a custom listener leave both latches alone is the model's reading of R302 and R306 (log entry 23, DEDUCED, unsafe). -/
def Obligations.EnableTakesEffectOneInstructionLate : Prop :=
  ∀ (s t : State) (i : Instr) (rest : List Byte),
    decode [s.read8 s.pc, s.read8 (s.pc + 1), s.read8 (s.pc + 2)] = .ok (i, rest) → runOne s = .next t →
    (s.iePending = true → i ≠ .di → t.ie = true) ∧ (i = .di → t.ie = false) ∧
      (s.iePending = false → i ≠ .di → t.ie = s.ie) ∧ (t.iePending = true ↔ i = .ei)

/-- `Tick` (R276 to R279): toggle the flip-flop, render at end of frame, call the selected interrupt, drain the input queue;
nothing else but the driver's clock, which is the model's choice (log entry 13). -/
def Obligations.TickRunsItsFiveActions : Prop :=
  ∀ s : State, s.mem.wf = true →
    ((tick s).driver.nextVec = match s.driver.nextVec with | .mid => .endOfFrame | .endOfFrame => .mid) ∧
    ((tick s).out.events = match s.driver.nextVec with
      | .mid => s.out.events
      | .endOfFrame => s.out.events ++
          [.render ((List.range 7168).map fun k => s.read8 (BitVec.ofNat 16 (0x2400 + k)))]) ∧
    (s.ie = true →
      PushedWord s (tick s) s.pc ∧ (tick s).ie = false ∧
        (tick s).pc = match s.driver.nextVec with | .mid => 0x0008 | .endOfFrame => 0x0010) ∧
    (s.ie = false →
      (tick s).pc = s.pc ∧ (tick s).sp = s.sp ∧ (tick s).ie = false ∧ MemKept s (tick s) []) ∧
    (tick s).driver.inq = [] ∧ (tick s).bus = s.driver.inq.foldl Bus.onInput s.bus ∧
    (tick s).driver.lastBoundary = s.cyc ∧ (tick s).driver.quit = s.driver.quit ∧
    (tick s).driver.budget = s.driver.budget ∧ RegsKept s (tick s) [] ∧ (tick s).flags = s.flags ∧
    (tick s).iePending = s.iePending ∧ (tick s).cyc = s.cyc ∧ (tick s).out.hostOut = s.out.hostOut ∧
    (tick s).env = s.env

/-- When a Tick runs (R275, R280, R282): in the cabinet, when QUIT is clear, no Reset has come since this turn's instruction,
and it is due, by the script or by the simulator's count of cycles; otherwise the state passes unchanged. That no Tick runs with
a listener installed is the model's reading of R305 (log entry 16). -/
def Obligations.TickRunsExactlyWhenDue : Prop :=
  ∀ (b : Boundary) (s : State),
    (s.env.input = .cabinetBus → s.env.output = .cabinetBus → s.driver.quit = false → HostAct.reset ∉ b.acts →
      (s.env.schedule = .scripted → tickIfDue b s = if b.tickDue then tick s else s) ∧
      ∀ n : Nat, s.env.schedule = .perCycles n →
        (n ≤ (s.cyc - s.driver.lastBoundary).toNat → tickIfDue b s = tick s) ∧
        ((s.cyc - s.driver.lastBoundary).toNat < n → tickIfDue b s = s)) ∧
    (s.driver.quit = true ∨ HostAct.reset ∈ b.acts ∨ s.env.input ≠ .cabinetBus ∨ s.env.output ≠ .cabinetBus →
      tickIfDue b s = s)

/-- Input events (R273, R279): `Enqueue` puts an event in range at the end of INQ and changes nothing else, and one out of range
is refused (the spec's decision D22); `on_input` sets the named bit of the named latch to the level, every other bit and all else
on the bus stays, and applying it twice is applying it once. -/
def Obligations.InputEventsAreQueuedAndApplied : Prop :=
  (∀ (port bit : Nat) (pressed : Bool) (s : State),
    ((port = 1 ∨ port = 2) ∧ bit < 8 →
      ∃ e : InputEvent, e.port = (if port = 1 then .in1 else .in2) ∧ e.bit.val = bit ∧ e.pressed = pressed ∧
        applyAct s (.enqueue port bit pressed) =
          .next { s with driver := { s.driver with inq := s.driver.inq ++ [e] } }) ∧
    (¬((port = 1 ∨ port = 2) ∧ bit < 8) →
      applyAct s (.enqueue port bit pressed) = .refused (.inputOutOfRange port bit))) ∧
  ∀ (b : Bus) (e : InputEvent) (k : Nat), k < 8 →
    (b.onInput e).in1.getLsbD k = (if e.port = .in1 ∧ k = e.bit.val then e.pressed else b.in1.getLsbD k) ∧
      (b.onInput e).in2.getLsbD k = (if e.port = .in2 ∧ k = e.bit.val then e.pressed else b.in2.getLsbD k) ∧
      { b.onInput e with in1 := b.in1, in2 := b.in2 } = b ∧ (b.onInput e).onInput e = b.onInput e

/-- The host's operations on memory and PC (R301, R302): `load_program` stores each byte whose address is at most 0xFFFF and
drops the others with no wrap (the spec's decision D24), `set_pc` writes PC alone, `read_memory` has no effect, and
`write_memory` writes one byte alone, in the ROM region too (D3). -/
def Obligations.HostLoadsPeeksAndPokes : Prop :=
  ∀ s : State, s.mem.wf = true →
    (∀ (bytes : List Byte) (origin : Word),
      (∀ a : Word,
        (loadProgram bytes origin.toNat s).read8 a =
          if origin.toNat ≤ a.toNat ∧ a.toNat < origin.toNat + bytes.length then
            bytes.getD (a.toNat - origin.toNat) 0x00
          else s.read8 a) ∧
        { loadProgram bytes origin.toNat s with mem := s.mem } = s) ∧
    ∀ (a : Word) (v : Byte),
      (setPcByHost a s).pc = a ∧ { setPcByHost a s with pc := s.pc } = s ∧ readMemory a s = s.read8 a ∧
        readMemory a (writeMemory a v s) = v ∧ MemKept s (writeMemory a v s) [a] ∧
        { writeMemory a v s with mem := s.mem } = s

/-! ## Rules about the whole machine -/

namespace Sys2Proof.Stmt

/-- The rows of the cycle table (R84), the first figure where a cell has two. -/
def cycleTable : List Nat :=
  [4, 10, 7, 5, 5, 5, 7, 4, 4, 10, 7, 5, 5, 5, 7, 4] ++ [4, 10, 7, 5, 5, 5, 7, 4, 4, 10, 7, 5, 5, 5, 7, 4] ++
  [4, 10, 16, 5, 5, 5, 7, 4, 4, 10, 16, 5, 5, 5, 7, 4] ++ [4, 10, 13, 5, 10, 10, 10, 4, 4, 10, 13, 5, 5, 5, 7, 4] ++
  [5, 5, 5, 5, 5, 5, 7, 5, 5, 5, 5, 5, 5, 5, 7, 5] ++ [5, 5, 5, 5, 5, 5, 7, 5, 5, 5, 5, 5, 5, 5, 7, 5] ++
  [5, 5, 5, 5, 5, 5, 7, 5, 5, 5, 5, 5, 5, 5, 7, 5] ++ [7, 7, 7, 7, 7, 7, 7, 7, 5, 5, 5, 5, 5, 5, 7, 5] ++
  [4, 4, 4, 4, 4, 4, 7, 4, 4, 4, 4, 4, 4, 4, 7, 4] ++ [4, 4, 4, 4, 4, 4, 7, 4, 4, 4, 4, 4, 4, 4, 7, 4] ++
  [4, 4, 4, 4, 4, 4, 7, 4, 4, 4, 4, 4, 4, 4, 7, 4] ++ [4, 4, 4, 4, 4, 4, 7, 4, 4, 4, 4, 4, 4, 4, 7, 4] ++
  [11, 10, 10, 10, 17, 11, 7, 11, 11, 10, 10, 10, 17, 17, 7, 11] ++
  [11, 10, 10, 10, 17, 11, 7, 11, 11, 10, 10, 10, 17, 17, 7, 11] ++
  [11, 10, 10, 18, 17, 11, 7, 11, 11, 5, 10, 5, 17, 17, 7, 11] ++
  [11, 10, 10, 4, 17, 11, 7, 11, 11, 5, 10, 4, 17, 17, 7, 11]

/-- The figure of R84 for an instruction at given flags: the second figure for a conditional return or call whose condition
is false. -/
def cyclesAt (i : Instr) (f : Flags) (n : Nat) : Prop :=
  (∀ k : Cond, i = Instr.retIf k → ¬condTrue f k → n = 5) ∧
    (∀ (k : Cond) (w : Word), i = Instr.callIf k w → ¬condTrue f k → n = 11) ∧
    ((∀ k : Cond, i = Instr.retIf k → condTrue f k) → (∀ (k : Cond) (w : Word), i = Instr.callIf k w → condTrue f k) →
      n = cycleTable.getD i.opcode.toNat 0)

/-- No listener other than the harness's is installed. -/
def NoCustomListener (s : State) : Prop := s.env.input ≠ .custom ∧ s.env.output ≠ .custom

/-- The instructions of R27's first row and POP PSW: all flags. -/
def WritesAllFlags (i : Instr) : Prop :=
  (∃ o x, i = Instr.alu o x) ∨ (∃ o v, i = Instr.aluImm o v) ∨ i = .daa ∨ i = .popPsw

/-- The instructions of R27's second row: S Z AC P, not CY. -/
def WritesAllButCy (i : Instr) : Prop := ∃ x, i = Instr.inr x ∨ i = Instr.dcr x

/-- The instructions of R27's third row: CY only. -/
def WritesCyOnly (i : Instr) : Prop :=
  (∃ p, i = Instr.dad p) ∨ i = .rlc ∨ i = .rrc ∨ i = .ral ∨ i = .rar ∨ i = .cmc ∨ i = .stc

/-- The addresses an instruction stores to (R60); a conditional call stores when its condition holds. -/
def storedAt (s : State) : Instr → List Word
  | .movMB | .movMC | .movMD | .movME | .movMH | .movML | .movMA | .mviM _ | .inrM | .dcrM => [pairValue s .hl]
  | .staxB => [pairValue s .bc]
  | .staxD => [pairValue s .de]
  | .sta w => [w]
  | .shld w => [w, w + 1]
  | .xthl => [s.sp, s.sp + 1]
  | .pushB | .pushD | .pushH | .pushPsw | .call _ | .callAliasDD _ | .callAliasED _ | .callAliasFD _ | .rst0 | .rst1
  | .rst2 | .rst3 | .rst4 | .rst5 | .rst6 | .rst7 => [s.sp - 1, s.sp - 2]
  | .cnz _ => if condHolds s.flags .nz then [s.sp - 1, s.sp - 2] else []
  | .cz _ => if condHolds s.flags .z then [s.sp - 1, s.sp - 2] else []
  | .cnc _ => if condHolds s.flags .nc then [s.sp - 1, s.sp - 2] else []
  | .cc _ => if condHolds s.flags .c then [s.sp - 1, s.sp - 2] else []
  | .cpo _ => if condHolds s.flags .po then [s.sp - 1, s.sp - 2] else []
  | .cpe _ => if condHolds s.flags .pe then [s.sp - 1, s.sp - 2] else []
  | .cp _ => if condHolds s.flags .p then [s.sp - 1, s.sp - 2] else []
  | .cm _ => if condHolds s.flags .m then [s.sp - 1, s.sp - 2] else []
  | _ => []

end Sys2Proof.Stmt

/-- Every instruction charges the figure of the cycle table (R84; the figures the source does not print are the spec's decision
D18, log entry 20). -/
def Obligations.CyclesFollowTheTable : Prop :=
  ∀ (i : Instr) (s t : State), exec i s = .next t → ∃ n : Nat, cyclesAt i s.flags n ∧ Cost s t n

/-- Which instructions write which flags (R27), with no custom listener installed. -/
def Obligations.FlagsAreWrittenByTheTabulatedInstructionsOnly : Prop :=
  ∀ (i : Instr) (s t : State), NoCustomListener s → exec i s = .next t →
    (WritesAllButCy i → t.flags.cy = s.flags.cy) ∧ (WritesCyOnly i → OnlyCy s t) ∧
      (¬WritesAllFlags i → ¬WritesAllButCy i → ¬WritesCyOnly i → t.flags = s.flags)

/-- Every instruction leaves every byte of memory as it was but the bytes R60 says it stores to, with no custom listener
installed. -/
def Obligations.MemoryChangesOnlyWhereStored : Prop :=
  ∀ (i : Instr) (s t : State), s.mem.wf = true → NoCustomListener s → exec i s = .next t →
    MemKept s t (storedAt s i)

/-- No instruction but `DI` changes IE and none but `EI` changes IE_PENDING; none changes the input latches, the flip-flop, the
queue, the budget or the boundary clock; none but `OUT` changes the rest of the bus or emits an event; none but `IN` and `OUT`
can set QUIT, and none clears it (R28, R29, R39, R40, R254, R311). For IN and OUT under a custom listener, that the latches, the
bus, the output and the driver but for QUIT stay is the model's reading of R302 and R306 (log entry 23, DEDUCED, unsafe); that a
listener ends the run by QUIT and advances freeCount are its choices (log entries 12, 14). -/
def Obligations.OnlyTheirOwnersChangeLatchesBusAndDriver : Prop :=
  ∀ (i : Instr) (s t : State), exec i s = .next t →
    (i ≠ .di → t.ie = s.ie) ∧ (i ≠ .ei → t.iePending = s.iePending) ∧ t.bus.in1 = s.bus.in1 ∧
      t.bus.in2 = s.bus.in2 ∧ t.driver.nextVec = s.driver.nextVec ∧ t.driver.inq = s.driver.inq ∧
      t.driver.budget = s.driver.budget ∧ t.driver.lastBoundary = s.driver.lastBoundary ∧
      ((∀ p, i ≠ .outPort p) → t.bus = s.bus ∧ t.out = s.out) ∧
      ((∀ p, i ≠ .outPort p ∧ i ≠ .inPort p) → t.driver = s.driver ∧ t.env = s.env) ∧
      (s.driver.quit = true → t.driver.quit = true)

/-- The round trips of the source (R113, R114, R171 to R174): `XCHG; XCHG`, `RAL; RAR` and, on a memory in canonical form,
`XTHL; XTHL` are identities but for CYC; `RLC; RRC` restores everything but CYC and CY, and leaves bit 7 of A in CY. That the
flags the source does not mention stay is the spec's decision D7 (log entry 27). -/
def Obligations.PairsOfInstructionsUndoEachOther : Prop :=
  ∀ s : State,
    (∃ t u, exec .xchg s = .next t ∧ exec .xchg t = .next u ∧ { u with cyc := s.cyc } = s) ∧
    (s.mem.wf = true →
      ∃ t u, exec .xthl s = .next t ∧ exec .xthl t = .next u ∧ { u with cyc := s.cyc } = s) ∧
    (∃ t u, exec .rlc s = .next t ∧ exec .rrc t = .next u ∧
      { u with cyc := s.cyc, flags := s.flags } = s ∧ u.flags = { s.flags with cy := (s.reg .a).getLsbD 7 }) ∧
    ∃ t u, exec .ral s = .next t ∧ exec .rar t = .next u ∧ { u with cyc := s.cyc } = s

/-- Memory: a read after a store gives the byte stored, every other address reads as before, at every address, the ROM region
and the region from 0x4000 on included (R52, R53, R58; the spec's decisions D3 and D4); and memories in canonical form that
read alike are equal. -/
def Obligations.MemoryReadsWhatWasStored : Prop :=
  (∀ (s : State) (a b : Word) (v : Byte), s.mem.wf = true →
    (s.write8 a v).mem.wf = true ∧ (s.write8 a v).read8 a = v ∧
      (b ≠ a → (s.write8 a v).read8 b = s.read8 b)) ∧
    ∀ s t : State, s.mem.wf = true → t.mem.wf = true → (∀ a : Word, s.read8 a = t.read8 a) → s.mem = t.mem
end

