-- ==== Sys2Proof/Laws/State.lean ====
section
/-! SUPPORT. What each update of the state leaves in each field: one lemma for each field and update, all by rfl. -/

namespace Sys2Proof.Machine

/-! ### setReg -/

@[simp] theorem setReg_regs (s : State) (r : Reg) (v : Byte) : (s.setReg r v).regs = s.regs.set v r := rfl
@[simp] theorem setReg_sp (s : State) (r : Reg) (v : Byte) : (s.setReg r v).sp = s.sp := rfl
@[simp] theorem setReg_pc (s : State) (r : Reg) (v : Byte) : (s.setReg r v).pc = s.pc := rfl
@[simp] theorem setReg_flags (s : State) (r : Reg) (v : Byte) : (s.setReg r v).flags = s.flags := rfl
@[simp] theorem setReg_ie (s : State) (r : Reg) (v : Byte) : (s.setReg r v).ie = s.ie := rfl
@[simp] theorem setReg_iePending (s : State) (r : Reg) (v : Byte) : (s.setReg r v).iePending = s.iePending := rfl
@[simp] theorem setReg_cyc (s : State) (r : Reg) (v : Byte) : (s.setReg r v).cyc = s.cyc := rfl
@[simp] theorem setReg_mem (s : State) (r : Reg) (v : Byte) : (s.setReg r v).mem = s.mem := rfl
@[simp] theorem setReg_bus (s : State) (r : Reg) (v : Byte) : (s.setReg r v).bus = s.bus := rfl
@[simp] theorem setReg_driver (s : State) (r : Reg) (v : Byte) : (s.setReg r v).driver = s.driver := rfl
@[simp] theorem setReg_out (s : State) (r : Reg) (v : Byte) : (s.setReg r v).out = s.out := rfl
@[simp] theorem setReg_env (s : State) (r : Reg) (v : Byte) : (s.setReg r v).env = s.env := rfl

/-! ### setPair -/

@[simp] theorem setPair_regs (s : State) (p : Pair) (v : Word) : (s.setPair p v).regs = s.regs.setPair p v := rfl
@[simp] theorem setPair_sp (s : State) (p : Pair) (v : Word) : (s.setPair p v).sp = s.sp := rfl
@[simp] theorem setPair_pc (s : State) (p : Pair) (v : Word) : (s.setPair p v).pc = s.pc := rfl
@[simp] theorem setPair_flags (s : State) (p : Pair) (v : Word) : (s.setPair p v).flags = s.flags := rfl
@[simp] theorem setPair_ie (s : State) (p : Pair) (v : Word) : (s.setPair p v).ie = s.ie := rfl
@[simp] theorem setPair_iePending (s : State) (p : Pair) (v : Word) : (s.setPair p v).iePending = s.iePending := rfl
@[simp] theorem setPair_cyc (s : State) (p : Pair) (v : Word) : (s.setPair p v).cyc = s.cyc := rfl
@[simp] theorem setPair_mem (s : State) (p : Pair) (v : Word) : (s.setPair p v).mem = s.mem := rfl
@[simp] theorem setPair_bus (s : State) (p : Pair) (v : Word) : (s.setPair p v).bus = s.bus := rfl
@[simp] theorem setPair_driver (s : State) (p : Pair) (v : Word) : (s.setPair p v).driver = s.driver := rfl
@[simp] theorem setPair_out (s : State) (p : Pair) (v : Word) : (s.setPair p v).out = s.out := rfl
@[simp] theorem setPair_env (s : State) (p : Pair) (v : Word) : (s.setPair p v).env = s.env := rfl

/-! ### setSp -/

@[simp] theorem setSp_regs (s : State) (v : Word) : (s.setSp v).regs = s.regs := rfl
@[simp] theorem setSp_sp (s : State) (v : Word) : (s.setSp v).sp = v := rfl
@[simp] theorem setSp_pc (s : State) (v : Word) : (s.setSp v).pc = s.pc := rfl
@[simp] theorem setSp_flags (s : State) (v : Word) : (s.setSp v).flags = s.flags := rfl
@[simp] theorem setSp_ie (s : State) (v : Word) : (s.setSp v).ie = s.ie := rfl
@[simp] theorem setSp_iePending (s : State) (v : Word) : (s.setSp v).iePending = s.iePending := rfl
@[simp] theorem setSp_cyc (s : State) (v : Word) : (s.setSp v).cyc = s.cyc := rfl
@[simp] theorem setSp_mem (s : State) (v : Word) : (s.setSp v).mem = s.mem := rfl
@[simp] theorem setSp_bus (s : State) (v : Word) : (s.setSp v).bus = s.bus := rfl
@[simp] theorem setSp_driver (s : State) (v : Word) : (s.setSp v).driver = s.driver := rfl
@[simp] theorem setSp_out (s : State) (v : Word) : (s.setSp v).out = s.out := rfl
@[simp] theorem setSp_env (s : State) (v : Word) : (s.setSp v).env = s.env := rfl

/-! ### setPc -/

@[simp] theorem setPc_regs (s : State) (v : Word) : (s.setPc v).regs = s.regs := rfl
@[simp] theorem setPc_sp (s : State) (v : Word) : (s.setPc v).sp = s.sp := rfl
@[simp] theorem setPc_pc (s : State) (v : Word) : (s.setPc v).pc = v := rfl
@[simp] theorem setPc_flags (s : State) (v : Word) : (s.setPc v).flags = s.flags := rfl
@[simp] theorem setPc_ie (s : State) (v : Word) : (s.setPc v).ie = s.ie := rfl
@[simp] theorem setPc_iePending (s : State) (v : Word) : (s.setPc v).iePending = s.iePending := rfl
@[simp] theorem setPc_cyc (s : State) (v : Word) : (s.setPc v).cyc = s.cyc := rfl
@[simp] theorem setPc_mem (s : State) (v : Word) : (s.setPc v).mem = s.mem := rfl
@[simp] theorem setPc_bus (s : State) (v : Word) : (s.setPc v).bus = s.bus := rfl
@[simp] theorem setPc_driver (s : State) (v : Word) : (s.setPc v).driver = s.driver := rfl
@[simp] theorem setPc_out (s : State) (v : Word) : (s.setPc v).out = s.out := rfl
@[simp] theorem setPc_env (s : State) (v : Word) : (s.setPc v).env = s.env := rfl

/-! ### setFlags -/

@[simp] theorem setFlags_regs (s : State) (f : Flags) : (s.setFlags f).regs = s.regs := rfl
@[simp] theorem setFlags_sp (s : State) (f : Flags) : (s.setFlags f).sp = s.sp := rfl
@[simp] theorem setFlags_pc (s : State) (f : Flags) : (s.setFlags f).pc = s.pc := rfl
@[simp] theorem setFlags_flags (s : State) (f : Flags) : (s.setFlags f).flags = f := rfl
@[simp] theorem setFlags_ie (s : State) (f : Flags) : (s.setFlags f).ie = s.ie := rfl
@[simp] theorem setFlags_iePending (s : State) (f : Flags) : (s.setFlags f).iePending = s.iePending := rfl
@[simp] theorem setFlags_cyc (s : State) (f : Flags) : (s.setFlags f).cyc = s.cyc := rfl
@[simp] theorem setFlags_mem (s : State) (f : Flags) : (s.setFlags f).mem = s.mem := rfl
@[simp] theorem setFlags_bus (s : State) (f : Flags) : (s.setFlags f).bus = s.bus := rfl
@[simp] theorem setFlags_driver (s : State) (f : Flags) : (s.setFlags f).driver = s.driver := rfl
@[simp] theorem setFlags_out (s : State) (f : Flags) : (s.setFlags f).out = s.out := rfl
@[simp] theorem setFlags_env (s : State) (f : Flags) : (s.setFlags f).env = s.env := rfl

/-! ### setCy -/

@[simp] theorem setCy_regs (s : State) (v : Bool) : (s.setCy v).regs = s.regs := rfl
@[simp] theorem setCy_sp (s : State) (v : Bool) : (s.setCy v).sp = s.sp := rfl
@[simp] theorem setCy_pc (s : State) (v : Bool) : (s.setCy v).pc = s.pc := rfl
@[simp] theorem setCy_flags (s : State) (v : Bool) : (s.setCy v).flags = { s.flags with cy := v } := rfl
@[simp] theorem setCy_ie (s : State) (v : Bool) : (s.setCy v).ie = s.ie := rfl
@[simp] theorem setCy_iePending (s : State) (v : Bool) : (s.setCy v).iePending = s.iePending := rfl
@[simp] theorem setCy_cyc (s : State) (v : Bool) : (s.setCy v).cyc = s.cyc := rfl
@[simp] theorem setCy_mem (s : State) (v : Bool) : (s.setCy v).mem = s.mem := rfl
@[simp] theorem setCy_bus (s : State) (v : Bool) : (s.setCy v).bus = s.bus := rfl
@[simp] theorem setCy_driver (s : State) (v : Bool) : (s.setCy v).driver = s.driver := rfl
@[simp] theorem setCy_out (s : State) (v : Bool) : (s.setCy v).out = s.out := rfl
@[simp] theorem setCy_env (s : State) (v : Bool) : (s.setCy v).env = s.env := rfl

/-! ### charge -/

@[simp] theorem charge_regs (s : State) (n : Nat) : (s.charge n).regs = s.regs := rfl
@[simp] theorem charge_sp (s : State) (n : Nat) : (s.charge n).sp = s.sp := rfl
@[simp] theorem charge_pc (s : State) (n : Nat) : (s.charge n).pc = s.pc := rfl
@[simp] theorem charge_flags (s : State) (n : Nat) : (s.charge n).flags = s.flags := rfl
@[simp] theorem charge_ie (s : State) (n : Nat) : (s.charge n).ie = s.ie := rfl
@[simp] theorem charge_iePending (s : State) (n : Nat) : (s.charge n).iePending = s.iePending := rfl
@[simp] theorem charge_cyc (s : State) (n : Nat) : (s.charge n).cyc = s.cyc + BitVec.ofNat 64 n := rfl
@[simp] theorem charge_mem (s : State) (n : Nat) : (s.charge n).mem = s.mem := rfl
@[simp] theorem charge_bus (s : State) (n : Nat) : (s.charge n).bus = s.bus := rfl
@[simp] theorem charge_driver (s : State) (n : Nat) : (s.charge n).driver = s.driver := rfl
@[simp] theorem charge_out (s : State) (n : Nat) : (s.charge n).out = s.out := rfl
@[simp] theorem charge_env (s : State) (n : Nat) : (s.charge n).env = s.env := rfl

/-! ### write8 -/

@[simp] theorem write8_regs (s : State) (a : Word) (v : Byte) : (s.write8 a v).regs = s.regs := rfl
@[simp] theorem write8_sp (s : State) (a : Word) (v : Byte) : (s.write8 a v).sp = s.sp := rfl
@[simp] theorem write8_pc (s : State) (a : Word) (v : Byte) : (s.write8 a v).pc = s.pc := rfl
@[simp] theorem write8_flags (s : State) (a : Word) (v : Byte) : (s.write8 a v).flags = s.flags := rfl
@[simp] theorem write8_ie (s : State) (a : Word) (v : Byte) : (s.write8 a v).ie = s.ie := rfl
@[simp] theorem write8_iePending (s : State) (a : Word) (v : Byte) : (s.write8 a v).iePending = s.iePending := rfl
@[simp] theorem write8_cyc (s : State) (a : Word) (v : Byte) : (s.write8 a v).cyc = s.cyc := rfl
@[simp] theorem write8_mem (s : State) (a : Word) (v : Byte) : (s.write8 a v).mem = s.mem.write a.toNat v := rfl
@[simp] theorem write8_bus (s : State) (a : Word) (v : Byte) : (s.write8 a v).bus = s.bus := rfl
@[simp] theorem write8_driver (s : State) (a : Word) (v : Byte) : (s.write8 a v).driver = s.driver := rfl
@[simp] theorem write8_out (s : State) (a : Word) (v : Byte) : (s.write8 a v).out = s.out := rfl
@[simp] theorem write8_env (s : State) (a : Word) (v : Byte) : (s.write8 a v).env = s.env := rfl

/-! ### write16 -/

@[simp] theorem write16_regs (s : State) (a v : Word) : (s.write16 a v).regs = s.regs := rfl
@[simp] theorem write16_sp (s : State) (a v : Word) : (s.write16 a v).sp = s.sp := rfl
@[simp] theorem write16_pc (s : State) (a v : Word) : (s.write16 a v).pc = s.pc := rfl
@[simp] theorem write16_flags (s : State) (a v : Word) : (s.write16 a v).flags = s.flags := rfl
@[simp] theorem write16_ie (s : State) (a v : Word) : (s.write16 a v).ie = s.ie := rfl
@[simp] theorem write16_iePending (s : State) (a v : Word) : (s.write16 a v).iePending = s.iePending := rfl
@[simp] theorem write16_cyc (s : State) (a v : Word) : (s.write16 a v).cyc = s.cyc := rfl
@[simp] theorem write16_mem (s : State) (a v : Word) : (s.write16 a v).mem = (s.mem.write a.toNat (lowByte v)).write (a + 1).toNat (highByte v) := rfl
@[simp] theorem write16_bus (s : State) (a v : Word) : (s.write16 a v).bus = s.bus := rfl
@[simp] theorem write16_driver (s : State) (a v : Word) : (s.write16 a v).driver = s.driver := rfl
@[simp] theorem write16_out (s : State) (a v : Word) : (s.write16 a v).out = s.out := rfl
@[simp] theorem write16_env (s : State) (a v : Word) : (s.write16 a v).env = s.env := rfl

/-! ### emit -/

@[simp] theorem emit_regs (s : State) (es : List Event) : (s.emit es).regs = s.regs := rfl
@[simp] theorem emit_sp (s : State) (es : List Event) : (s.emit es).sp = s.sp := rfl
@[simp] theorem emit_pc (s : State) (es : List Event) : (s.emit es).pc = s.pc := rfl
@[simp] theorem emit_flags (s : State) (es : List Event) : (s.emit es).flags = s.flags := rfl
@[simp] theorem emit_ie (s : State) (es : List Event) : (s.emit es).ie = s.ie := rfl
@[simp] theorem emit_iePending (s : State) (es : List Event) : (s.emit es).iePending = s.iePending := rfl
@[simp] theorem emit_cyc (s : State) (es : List Event) : (s.emit es).cyc = s.cyc := rfl
@[simp] theorem emit_mem (s : State) (es : List Event) : (s.emit es).mem = s.mem := rfl
@[simp] theorem emit_bus (s : State) (es : List Event) : (s.emit es).bus = s.bus := rfl
@[simp] theorem emit_driver (s : State) (es : List Event) : (s.emit es).driver = s.driver := rfl
@[simp] theorem emit_out (s : State) (es : List Event) : (s.emit es).out = { s.out with events := s.out.events ++ es } := rfl
@[simp] theorem emit_env (s : State) (es : List Event) : (s.emit es).env = s.env := rfl

/-! ### endRun -/

@[simp] theorem endRun_regs (s : State) : (endRun s).regs = s.regs := rfl
@[simp] theorem endRun_sp (s : State) : (endRun s).sp = s.sp := rfl
@[simp] theorem endRun_pc (s : State) : (endRun s).pc = s.pc := rfl
@[simp] theorem endRun_flags (s : State) : (endRun s).flags = s.flags := rfl
@[simp] theorem endRun_ie (s : State) : (endRun s).ie = s.ie := rfl
@[simp] theorem endRun_iePending (s : State) : (endRun s).iePending = s.iePending := rfl
@[simp] theorem endRun_cyc (s : State) : (endRun s).cyc = s.cyc := rfl
@[simp] theorem endRun_mem (s : State) : (endRun s).mem = s.mem := rfl
@[simp] theorem endRun_bus (s : State) : (endRun s).bus = s.bus := rfl
@[simp] theorem endRun_driver (s : State) : (endRun s).driver = { s.driver with quit := true } := rfl
@[simp] theorem endRun_out (s : State) : (endRun s).out = s.out := rfl
@[simp] theorem endRun_env (s : State) : (endRun s).env = s.env := rfl

/-! ### useFree -/

@[simp] theorem useFree_regs (s : State) : (useFree s).regs = s.regs := rfl
@[simp] theorem useFree_sp (s : State) : (useFree s).sp = s.sp := rfl
@[simp] theorem useFree_pc (s : State) : (useFree s).pc = s.pc := rfl
@[simp] theorem useFree_flags (s : State) : (useFree s).flags = s.flags := rfl
@[simp] theorem useFree_ie (s : State) : (useFree s).ie = s.ie := rfl
@[simp] theorem useFree_iePending (s : State) : (useFree s).iePending = s.iePending := rfl
@[simp] theorem useFree_cyc (s : State) : (useFree s).cyc = s.cyc := rfl
@[simp] theorem useFree_mem (s : State) : (useFree s).mem = s.mem := rfl
@[simp] theorem useFree_bus (s : State) : (useFree s).bus = s.bus := rfl
@[simp] theorem useFree_driver (s : State) : (useFree s).driver = s.driver := rfl
@[simp] theorem useFree_out (s : State) : (useFree s).out = s.out := rfl
@[simp] theorem useFree_env (s : State) : (useFree s).env = { s.env with freeCount := s.env.freeCount + 1 } := rfl

/-! ### print -/

@[simp] theorem print_regs (s : State) (bs : List Byte) : (s.print bs).regs = s.regs := rfl
@[simp] theorem print_sp (s : State) (bs : List Byte) : (s.print bs).sp = s.sp := rfl
@[simp] theorem print_pc (s : State) (bs : List Byte) : (s.print bs).pc = s.pc := rfl
@[simp] theorem print_flags (s : State) (bs : List Byte) : (s.print bs).flags = s.flags := rfl
@[simp] theorem print_ie (s : State) (bs : List Byte) : (s.print bs).ie = s.ie := rfl
@[simp] theorem print_iePending (s : State) (bs : List Byte) : (s.print bs).iePending = s.iePending := rfl
@[simp] theorem print_cyc (s : State) (bs : List Byte) : (s.print bs).cyc = s.cyc := rfl
@[simp] theorem print_mem (s : State) (bs : List Byte) : (s.print bs).mem = s.mem := rfl
@[simp] theorem print_bus (s : State) (bs : List Byte) : (s.print bs).bus = s.bus := rfl
@[simp] theorem print_driver (s : State) (bs : List Byte) : (s.print bs).driver = s.driver := rfl
@[simp] theorem print_out (s : State) (bs : List Byte) : (s.print bs).out = { s.out with hostOut := s.out.hostOut ++ bs } := rfl
@[simp] theorem print_env (s : State) (bs : List Byte) : (s.print bs).env = s.env := rfl

/-! ### setAccumulator -/

@[simp] theorem setAccumulator_regs (r : Byte × Flags) (s : State) : (setAccumulator r s).regs = s.regs.set r.1 .a := rfl
@[simp] theorem setAccumulator_sp (r : Byte × Flags) (s : State) : (setAccumulator r s).sp = s.sp := rfl
@[simp] theorem setAccumulator_pc (r : Byte × Flags) (s : State) : (setAccumulator r s).pc = s.pc := rfl
@[simp] theorem setAccumulator_flags (r : Byte × Flags) (s : State) : (setAccumulator r s).flags = r.2 := rfl
@[simp] theorem setAccumulator_ie (r : Byte × Flags) (s : State) : (setAccumulator r s).ie = s.ie := rfl
@[simp] theorem setAccumulator_iePending (r : Byte × Flags) (s : State) : (setAccumulator r s).iePending = s.iePending := rfl
@[simp] theorem setAccumulator_cyc (r : Byte × Flags) (s : State) : (setAccumulator r s).cyc = s.cyc := rfl
@[simp] theorem setAccumulator_mem (r : Byte × Flags) (s : State) : (setAccumulator r s).mem = s.mem := rfl
@[simp] theorem setAccumulator_bus (r : Byte × Flags) (s : State) : (setAccumulator r s).bus = s.bus := rfl
@[simp] theorem setAccumulator_driver (r : Byte × Flags) (s : State) : (setAccumulator r s).driver = s.driver := rfl
@[simp] theorem setAccumulator_out (r : Byte × Flags) (s : State) : (setAccumulator r s).out = s.out := rfl
@[simp] theorem setAccumulator_env (r : Byte × Flags) (s : State) : (setAccumulator r s).env = s.env := rfl

/-! ### push16 -/

@[simp] theorem push16_regs (v : Word) (s : State) : (push16 v s).regs = s.regs := rfl
@[simp] theorem push16_sp (v : Word) (s : State) : (push16 v s).sp = s.sp - 2 := rfl
@[simp] theorem push16_pc (v : Word) (s : State) : (push16 v s).pc = s.pc := rfl
@[simp] theorem push16_flags (v : Word) (s : State) : (push16 v s).flags = s.flags := rfl
@[simp] theorem push16_ie (v : Word) (s : State) : (push16 v s).ie = s.ie := rfl
@[simp] theorem push16_iePending (v : Word) (s : State) : (push16 v s).iePending = s.iePending := rfl
@[simp] theorem push16_cyc (v : Word) (s : State) : (push16 v s).cyc = s.cyc := rfl
@[simp] theorem push16_mem (v : Word) (s : State) : (push16 v s).mem = (s.mem.write (s.sp - 1).toNat (highByte v)).write (s.sp - 2).toNat (lowByte v) := rfl
@[simp] theorem push16_bus (v : Word) (s : State) : (push16 v s).bus = s.bus := rfl
@[simp] theorem push16_driver (v : Word) (s : State) : (push16 v s).driver = s.driver := rfl
@[simp] theorem push16_out (v : Word) (s : State) : (push16 v s).out = s.out := rfl
@[simp] theorem push16_env (v : Word) (s : State) : (push16 v s).env = s.env := rfl

/-! ### callTo -/

@[simp] theorem callTo_regs (v : Word) (s : State) : (callTo v s).regs = s.regs := rfl
@[simp] theorem callTo_sp (v : Word) (s : State) : (callTo v s).sp = s.sp - 2 := rfl
@[simp] theorem callTo_pc (v : Word) (s : State) : (callTo v s).pc = v := rfl
@[simp] theorem callTo_flags (v : Word) (s : State) : (callTo v s).flags = s.flags := rfl
@[simp] theorem callTo_ie (v : Word) (s : State) : (callTo v s).ie = s.ie := rfl
@[simp] theorem callTo_iePending (v : Word) (s : State) : (callTo v s).iePending = s.iePending := rfl
@[simp] theorem callTo_cyc (v : Word) (s : State) : (callTo v s).cyc = s.cyc := rfl
@[simp] theorem callTo_mem (v : Word) (s : State) : (callTo v s).mem = (s.mem.write (s.sp - 1).toNat (highByte s.pc)).write (s.sp - 2).toNat (lowByte s.pc) := rfl
@[simp] theorem callTo_bus (v : Word) (s : State) : (callTo v s).bus = s.bus := rfl
@[simp] theorem callTo_driver (v : Word) (s : State) : (callTo v s).driver = s.driver := rfl
@[simp] theorem callTo_out (v : Word) (s : State) : (callTo v s).out = s.out := rfl
@[simp] theorem callTo_env (v : Word) (s : State) : (callTo v s).env = s.env := rfl

/-! ### returnFromCall -/

@[simp] theorem returnFromCall_regs (s : State) : (returnFromCall s).regs = s.regs := rfl
@[simp] theorem returnFromCall_sp (s : State) : (returnFromCall s).sp = s.sp + 2 := rfl
@[simp] theorem returnFromCall_pc (s : State) : (returnFromCall s).pc = s.read16 s.sp := rfl
@[simp] theorem returnFromCall_flags (s : State) : (returnFromCall s).flags = s.flags := rfl
@[simp] theorem returnFromCall_ie (s : State) : (returnFromCall s).ie = s.ie := rfl
@[simp] theorem returnFromCall_iePending (s : State) : (returnFromCall s).iePending = s.iePending := rfl
@[simp] theorem returnFromCall_cyc (s : State) : (returnFromCall s).cyc = s.cyc := rfl
@[simp] theorem returnFromCall_mem (s : State) : (returnFromCall s).mem = s.mem := rfl
@[simp] theorem returnFromCall_bus (s : State) : (returnFromCall s).bus = s.bus := rfl
@[simp] theorem returnFromCall_driver (s : State) : (returnFromCall s).driver = s.driver := rfl
@[simp] theorem returnFromCall_out (s : State) : (returnFromCall s).out = s.out := rfl
@[simp] theorem returnFromCall_env (s : State) : (returnFromCall s).env = s.env := rfl

end Sys2Proof.Machine
end

