-- ==== Sys2Proof/Laws/Memory.lean ====
section
/-! SUPPORT. The laws of memory: a read after a write, and the canonical form (spec/20_memory.md R52, R53, R63). -/

namespace Sys2Proof.Machine

/-- This hardware has `ROM_WRITE_PROTECT` false: every store succeeds (R53, D3). -/
@[simp] theorem Memory.write_eq_store (m : Memory) (a : Nat) (v : Byte) : m.write a v = m.store a v := rfl

/-- A form that starts later is also one that starts earlier. -/
theorem Memory.wfFrom_mono {m : Memory} {lo lo' : Nat} (h : Memory.wfFrom lo m = true) (hle : lo' ≤ lo) :
    Memory.wfFrom lo' m = true := by
  cases m with
  | nil => rfl
  | cons c m =>
    obtain ⟨k, w⟩ := c
    simp only [Memory.wfFrom, Bool.and_eq_true, decide_eq_true_eq] at h ⊢
    exact ⟨⟨⟨by omega, h.1.1.2⟩, h.1.2⟩, h.2⟩

/-- No cell stands below where the form starts. -/
theorem Memory.read_below {m : Memory} {lo a : Nat} (h : Memory.wfFrom lo m = true) (ha : a < lo) :
    m.read a = Config.resetByte := by
  induction m generalizing lo with
  | nil => rfl
  | cons c m ih =>
    obtain ⟨k, w⟩ := c
    simp only [Memory.wfFrom, Bool.and_eq_true, decide_eq_true_eq] at h
    rw [Memory.read, if_neg (by omega)]
    exact ih h.2 (by omega)

theorem Memory.read_cons {m : Memory} {a b : Nat} {v : Byte} (h : Memory.wfFrom (a + 1) m = true) :
    (Memory.cons a v m).read b = if b = a then v else m.read b := by
  unfold Memory.cons
  split
  · rename_i hv
    split
    · rename_i hb
      rw [hb, Memory.read_below h (by omega), hv]
    · rfl
  · rw [Memory.read]
    by_cases hb : b = a
    · rw [if_pos hb.symm, if_pos hb]
    · rw [if_neg (fun h' => hb h'.symm), if_neg hb]

theorem Memory.cons_wfFrom {m : Memory} {lo a : Nat} {v : Byte} (h : Memory.wfFrom (a + 1) m = true) (hlo : lo ≤ a)
    (ha : a < Config.memorySize) : Memory.wfFrom lo (Memory.cons a v m) = true := by
  unfold Memory.cons
  split
  · exact Memory.wfFrom_mono h (by omega)
  · rename_i hv
    simp only [Memory.wfFrom, Bool.and_eq_true, decide_eq_true_eq]
    exact ⟨⟨⟨hlo, ha⟩, hv⟩, h⟩

/-- A store keeps the canonical form. -/
theorem Memory.store_wfFrom {m : Memory} {lo a : Nat} (v : Byte) (h : Memory.wfFrom lo m = true) (hlo : lo ≤ a)
    (ha : a < Config.memorySize) : Memory.wfFrom lo (m.store a v) = true := by
  induction m generalizing lo with
  | nil => exact Memory.cons_wfFrom rfl hlo ha
  | cons c m ih =>
    obtain ⟨k, w⟩ := c
    have h' := h
    simp only [Memory.wfFrom, Bool.and_eq_true, decide_eq_true_eq] at h'
    obtain ⟨⟨⟨hk, hk'⟩, hw⟩, hm⟩ := h'
    unfold Memory.store
    split
    · refine Memory.cons_wfFrom ?_ hlo ha
      simp only [Memory.wfFrom, Bool.and_eq_true, decide_eq_true_eq]
      exact ⟨⟨⟨by omega, hk'⟩, hw⟩, hm⟩
    · split
      · rename_i hak
        exact Memory.cons_wfFrom (hak ▸ hm) hlo ha
      · simp only [Memory.wfFrom, Bool.and_eq_true, decide_eq_true_eq]
        exact ⟨⟨⟨hk, hk'⟩, hw⟩, ih hm (by omega)⟩

/-- A read after a store, in a memory whose form starts at `lo`. -/
theorem Memory.read_store_from {m : Memory} {lo a b : Nat} (v : Byte) (h : Memory.wfFrom lo m = true) :
    (m.store a v).read b = if b = a then v else m.read b := by
  induction m generalizing lo with
  | nil => exact Memory.read_cons rfl
  | cons c m ih =>
    obtain ⟨k, w⟩ := c
    have h' := h
    simp only [Memory.wfFrom, Bool.and_eq_true, decide_eq_true_eq] at h'
    obtain ⟨⟨⟨hk, hk'⟩, hw⟩, hm⟩ := h'
    unfold Memory.store
    split
    · refine Memory.read_cons ?_
      simp only [Memory.wfFrom, Bool.and_eq_true, decide_eq_true_eq]
      exact ⟨⟨⟨by omega, hk'⟩, hw⟩, hm⟩
    · split
      · rename_i hak
        subst hak
        rw [Memory.read_cons hm]
        by_cases hb : b = a
        · rw [if_pos hb, if_pos hb]
        · rw [if_neg hb, if_neg hb, Memory.read, if_neg (fun h' => hb h'.symm)]
      · rw [Memory.read, ih hm, Memory.read]
        by_cases hkb : k = b
        · rw [if_pos hkb, if_pos hkb, if_neg (by omega)]
        · rw [if_neg hkb, if_neg hkb]

/-- Two memories in canonical form that read alike are the same list. -/
theorem Memory.ext_from {m n : Memory} {lo : Nat} (hm : Memory.wfFrom lo m = true) (hn : Memory.wfFrom lo n = true)
    (h : ∀ a, m.read a = n.read a) : m = n := by
  induction m generalizing lo n with
  | nil =>
    cases n with
    | nil => rfl
    | cons c n =>
      obtain ⟨k, w⟩ := c
      simp only [Memory.wfFrom, Bool.and_eq_true, decide_eq_true_eq] at hn
      have := h k
      rw [Memory.read, Memory.read, if_pos rfl] at this
      exact absurd this.symm hn.1.2
  | cons c m ih =>
    obtain ⟨k, w⟩ := c
    have hm' := hm
    simp only [Memory.wfFrom, Bool.and_eq_true, decide_eq_true_eq] at hm'
    have hmk := h k
    rw [Memory.read, if_pos rfl] at hmk
    cases n with
    | nil => exact absurd hmk hm'.1.2
    | cons d n =>
      obtain ⟨j, u⟩ := d
      have hn' := hn
      simp only [Memory.wfFrom, Bool.and_eq_true, decide_eq_true_eq] at hn'
      have hnj := h j
      rw [Memory.read, Memory.read, if_pos rfl] at hnj
      rw [Memory.read] at hmk
      have hkj : k = j := by
        rcases Nat.lt_trichotomy k j with hlt | heq | hgt
        · rw [if_neg (by omega), Memory.read_below hn'.2 (by omega)] at hmk
          exact absurd hmk hm'.1.2
        · exact heq
        · rw [if_neg (by omega), Memory.read_below hm'.2 (by omega)] at hnj
          exact absurd hnj.symm hn'.1.2
      subst hkj
      rw [if_pos rfl] at hmk
      have htail : m = n := ih hm'.2 hn'.2 fun a => by
        rcases Nat.lt_or_ge a (k + 1) with hlt | hge
        · rw [Memory.read_below hm'.2 hlt, Memory.read_below hn'.2 hlt]
        · have := h a
          rwa [Memory.read, Memory.read, if_neg (by omega), if_neg (by omega)] at this
      rw [hmk, htail]

/-! ## The laws callers cite -/

theorem Memory.write_wf {m : Memory} {a : Nat} (v : Byte) (h : m.wf = true) (ha : a < Config.memorySize) :
    (m.write a v).wf = true := Memory.store_wfFrom v h (Nat.zero_le a) ha

theorem Memory.read_write {m : Memory} {a b : Nat} (v : Byte) (h : m.wf = true) :
    (m.write a v).read b = if b = a then v else m.read b := Memory.read_store_from v h

theorem Memory.eq_of_read {m n : Memory} (hm : m.wf = true) (hn : n.wf = true) (h : ∀ a, m.read a = n.read a) :
    m = n := Memory.ext_from hm hn h

end Sys2Proof.Machine
end

