-- ==== Sys2Proof/Laws/Ops.lean ====
section
/-! SUPPORT. What each shared operation can do, said once: registers, bytes of memory, the stack, fetching, interrupts and
the outside world's acts. -/

namespace Sys2Proof.Machine

/-! ## Bytes of a word -/

theorem highByte_toNat (v : Word) : (highByte v).toNat = v.toNat / 256 := by
  simp only [highByte, BitVec.extractLsb'_toNat, Nat.shiftRight_eq_div_pow]
  omega

theorem lowByte_toNat (v : Word) : (lowByte v).toNat = v.toNat % 256 := by
  simp [lowByte]

theorem joinBytes_toNat (hi lo : Byte) : (joinBytes hi lo).toNat = hi.toNat * 256 + lo.toNat := by
  have := lo.isLt
  simp only [joinBytes, BitVec.toNat_append]
  rw [← Nat.shiftLeft_add_eq_or_of_lt lo.isLt, Nat.shiftLeft_eq]

@[simp] theorem highByte_joinBytes (hi lo : Byte) : highByte (joinBytes hi lo) = hi := by
  apply BitVec.eq_of_toNat_eq
  rw [highByte_toNat, joinBytes_toNat]
  omega

@[simp] theorem lowByte_joinBytes (hi lo : Byte) : lowByte (joinBytes hi lo) = lo := by
  apply BitVec.eq_of_toNat_eq
  rw [lowByte_toNat, joinBytes_toNat]
  omega

@[simp] theorem joinBytes_bytes (v : Word) : joinBytes (highByte v) (lowByte v) = v := by
  apply BitVec.eq_of_toNat_eq
  rw [joinBytes_toNat, highByte_toNat, lowByte_toNat]
  omega

/-! ## Registers -/

/-- Writing one register leaves the other six (R20). -/
@[simp] theorem Regs.get_set (r : Regs) (x y : Reg) (v : Byte) :
    (r.set v x).get y = if y = x then v else r.get y := by
  cases x <;> cases y <;> rfl

@[simp] theorem reg_setReg (s : State) (x y : Reg) (v : Byte) :
    (s.setReg x v).reg y = if y = x then v else s.reg y := Regs.get_set s.regs x y v

/-- A state with the same registers reads the same. -/
theorem reg_congr {s t : State} (h : t.regs = s.regs) (x : Reg) : t.reg x = s.reg x := by
  simp [State.reg, h]

/-- Writing a pair writes its two registers and no other (R11, R21). -/
theorem reg_setPair (s : State) (p : Pair) (v : Word) (y : Reg) :
    (s.setPair p v).reg y = if y = Pair.high p then highByte v else if y = Pair.low p then lowByte v else s.reg y := by
  cases p <;> cases y <;> rfl

@[simp] theorem pair_setPair_same (s : State) (p : Pair) (v : Word) : (s.setPair p v).pair p = v := by
  cases p <;> exact joinBytes_bytes v

/-! ## Bytes of memory -/

theorem toNat_lt_memorySize (a : Word) : a.toNat < Config.memorySize := a.isLt

/-- A read after a store (R52, R53, R63). -/
theorem read8_write8 {s : State} (h : s.mem.wf = true) (a b : Word) (v : Byte) :
    (s.write8 a v).read8 b = if b = a then v else s.read8 b := by
  unfold State.read8
  rw [write8_mem, Memory.read_write v h]
  by_cases hb : b = a
  · rw [if_pos hb, if_pos (congrArg BitVec.toNat hb)]
  · rw [if_neg hb, if_neg fun h' => hb (BitVec.eq_of_toNat_eq h')]

/-- A store keeps memory's canonical form. -/
theorem write8_wf {s : State} (h : s.mem.wf = true) (a : Word) (v : Byte) : (s.write8 a v).mem.wf = true :=
  Memory.write_wf v h (toNat_lt_memorySize a)

/-- A state with the same memory reads the same. -/
theorem read8_congr {s t : State} (h : t.mem = s.mem) (a : Word) : t.read8 a = s.read8 a := by
  simp [State.read8, h]

theorem write16_wf {s : State} (h : s.mem.wf = true) (a v : Word) : (s.write16 a v).mem.wf = true :=
  write8_wf (write8_wf h a (lowByte v)) (a + 1) (highByte v)

/-- A read after a 16-bit store: low byte at the lower address, high byte at the next (R54, R56). -/
theorem read8_write16 {s : State} (h : s.mem.wf = true) (a v b : Word) :
    (s.write16 a v).read8 b = if b = a + 1 then highByte v else if b = a then lowByte v else s.read8 b := by
  unfold State.write16
  rw [read8_write8 (write8_wf h _ _), read8_write8 h]

/-! ## The stack -/

theorem push16_wf {s : State} (h : s.mem.wf = true) (v : Word) : (push16 v s).mem.wf = true :=
  write8_wf (s := s.write8 (s.sp - 1) (highByte v)) (write8_wf h _ _) (s.sp - 2) (lowByte v)

/-- What memory holds after a push (R18). -/
theorem read8_push16 {s : State} (h : s.mem.wf = true) (v b : Word) :
    (push16 v s).read8 b =
      if b = s.sp - 2 then lowByte v else if b = s.sp - 1 then highByte v else s.read8 b := by
  have hm : (push16 v s).mem = ((s.write8 (s.sp - 1) (highByte v)).write8 (s.sp - 2) (lowByte v)).mem := rfl
  rw [read8_congr hm, read8_write8 (write8_wf h _ _), read8_write8 h]

theorem callTo_wf {s : State} (h : s.mem.wf = true) (w : Word) : (callTo w s).mem.wf = true := push16_wf h s.pc

/-- What memory holds after a call: the return address below SP (R193). -/
theorem read8_callTo {s : State} (h : s.mem.wf = true) (w b : Word) :
    (callTo w s).read8 b =
      if b = s.sp - 2 then lowByte s.pc else if b = s.sp - 1 then highByte s.pc else s.read8 b :=
  read8_push16 h s.pc b

/-- Taking an interrupt (R252): with IE clear nothing changes; with IE set it is a call of the vector with IE cleared. -/
theorem takeInterrupt_cases (n : Nat) (s : State) :
    (s.ie = false ∧ takeInterrupt n s = s) ∨
      (s.ie = true ∧ takeInterrupt n s = { callTo (vectorAddress n) s with ie := false }) := by
  unfold takeInterrupt
  cases h : s.ie <;> simp

theorem takeInterrupt_wf {s : State} (h : s.mem.wf = true) (n : Nat) : (takeInterrupt n s).mem.wf = true := by
  rcases takeInterrupt_cases n s with ⟨-, e⟩ | ⟨-, e⟩ <;> rw [e]
  · exact h
  · exact callTo_wf h (vectorAddress n)

/-! ## Fetching -/

/-- The bytes at PC, as many as the longest instruction has. -/
def bytesAtPc (s : State) : List Byte := [s.read8 s.pc, s.read8 (s.pc + 1), s.read8 (s.pc + 2)]

/-- Fetching reads what the decoder reads from the bytes at PC, and advances PC by as many bytes as it used (R13, R83). -/
theorem fetchInstr_of_decode {s : State} {i : Instr} {rest : List Byte} (h : decode (bytesAtPc s) = .ok (i, rest)) :
    fetchInstr s = (i, s.setPc (s.pc + BitVec.ofNat 16 (3 - rest.length))) := by
  have h2 : s.pc + 1 + 1 = s.pc + 2 := by rw [BitVec.add_assoc]; rfl
  have h3 : s.pc + 1 + 1 + 1 = s.pc + 3 := by rw [BitVec.add_assoc, BitVec.add_assoc]; rfl
  unfold bytesAtPc decode at h
  unfold fetchInstr fetch16 fetch8
  cases hf : formOf (s.read8 s.pc) with
  | f1 i =>
    simp only [hf, Except.ok.injEq, Prod.mk.injEq] at h
    obtain ⟨rfl, rfl⟩ := h
    simp only [hf]
    rfl
  | f2 mk =>
    simp only [hf, Except.ok.injEq, Prod.mk.injEq] at h
    obtain ⟨rfl, rfl⟩ := h
    simp only [hf]
    exact Prod.ext rfl (congrArg s.setPc h2)
  | f3 mk =>
    simp only [hf, Except.ok.injEq, Prod.mk.injEq] at h
    obtain ⟨rfl, rfl⟩ := h
    simp only [hf]
    refine Prod.ext ?_ (congrArg s.setPc h3)
    show mk (joinBytes (s.read8 (s.pc + 1 + 1)) (s.read8 (s.pc + 1))) = _
    rw [h2]
    rfl

/-! ## Listeners and the outside world -/

/-- A poke changes registers, SP, PC, flags or one byte of memory, and nothing else (R302). -/
theorem applyPoke_frame (s : State) (p : Poke) :
    (applyPoke s p).ie = s.ie ∧ (applyPoke s p).iePending = s.iePending ∧ (applyPoke s p).cyc = s.cyc ∧
      (applyPoke s p).bus = s.bus ∧ (applyPoke s p).driver = s.driver ∧ (applyPoke s p).out = s.out ∧
      (applyPoke s p).env = s.env := by
  cases p <;> exact ⟨rfl, rfl, rfl, rfl, rfl, rfl, rfl⟩

theorem applyPoke_wf {s : State} (h : s.mem.wf = true) (p : Poke) : (applyPoke s p).mem.wf = true := by
  cases p with
  | writeMemory a v => exact write8_wf h a v
  | _ => exact h

theorem applyPokes_frame (s : State) (ps : List Poke) :
    (applyPokes s ps).ie = s.ie ∧ (applyPokes s ps).iePending = s.iePending ∧ (applyPokes s ps).cyc = s.cyc ∧
      (applyPokes s ps).bus = s.bus ∧ (applyPokes s ps).driver = s.driver ∧ (applyPokes s ps).out = s.out ∧
      (applyPokes s ps).env = s.env := by
  induction ps generalizing s with
  | nil => exact ⟨rfl, rfl, rfl, rfl, rfl, rfl, rfl⟩
  | cons p ps ih =>
    have h1 := ih (applyPoke s p)
    have h2 := applyPoke_frame s p
    simp only [applyPokes, List.foldl_cons] at h1 ⊢
    simpa [h2] using h1

theorem applyPokes_wf {s : State} (h : s.mem.wf = true) (ps : List Poke) : (applyPokes s ps).mem.wf = true := by
  induction ps generalizing s with
  | nil => exact h
  | cons p ps ih => exact ih (applyPoke_wf h p)

/-- A listener's answer keeps memory's form, the events, IE, IE_PENDING, CYC and the bus (R306). -/
theorem applyListener_frame (r : ListenerResult) (s : State) :
    (applyListener r s).ie = s.ie ∧ (applyListener r s).iePending = s.iePending ∧ (applyListener r s).cyc = s.cyc ∧
      (applyListener r s).bus = s.bus ∧ (applyListener r s).out = s.out := by
  have h := applyPokes_frame (useFree s) r.pokes
  unfold applyListener
  dsimp only
  split <;> exact ⟨h.1, h.2.1, h.2.2.1, h.2.2.2.1, h.2.2.2.2.2.1⟩

theorem applyListener_wf {s : State} (h : s.mem.wf = true) (r : ListenerResult) :
    (applyListener r s).mem.wf = true := by
  have h' := applyPokes_wf (s := useFree s) h r.pokes
  unfold applyListener
  dsimp only
  split <;> exact h'

/-- The harness's print changes nothing but its output stream and the index of free values (R306). -/
theorem harnessOutput_cases (s : State) :
    ∃ bs n, harnessOutput s =
      { s with out := { s.out with hostOut := s.out.hostOut ++ bs }, env := { s.env with freeCount := n } } := by
  unfold harnessOutput
  split
  · exact ⟨_, s.env.freeCount, rfl⟩
  · split
    · split
      · exact ⟨_, s.env.freeCount, rfl⟩
      · exact ⟨_, s.env.freeCount + 1, rfl⟩
    · exact ⟨[], s.env.freeCount, by simp⟩

/-- The host boundary accepts an act exactly when it is well formed (R252, R273). -/
theorem applyAct_next_iff (s : State) (a : HostAct) : (∃ t, applyAct s a = .next t) ↔ a.wellFormed = true := by
  cases a with
  | enqueue port bit pressed =>
    simp only [applyAct, enqueue, inputEventOf, HostAct.wellFormed]
    by_cases h : inputWellFormed port bit = true <;> simp [h]
  | interrupt n =>
    simp only [applyAct, interrupt, HostAct.wellFormed]
    by_cases h : vectorWellFormed n = true <;> simp [h]
  | quit => simp [applyAct, HostAct.wellFormed]
  | poke p => simp [applyAct, HostAct.wellFormed]
  | reset => simp [applyAct, HostAct.wellFormed]

theorem applyActs_next_iff (s : State) (as : List HostAct) :
    (∃ t, applyActs s as = .next t) ↔ as.all HostAct.wellFormed = true := by
  induction as generalizing s with
  | nil => simp [applyActs]
  | cons a as ih =>
    rw [List.all_cons, Bool.and_eq_true, ← applyAct_next_iff s a]
    unfold applyActs
    cases h : applyAct s a with
    | next t => simpa using ih t
    | fault f => simp
    | refused r => simp

/-! ## The Tick test -/

/-- What the Tick test can do: run a Tick, in the cabinet, with no Reset since this turn's instruction, with QUIT clear and a
Tick due; or leave the state alone. -/
theorem tickIfDue_cases (b : Boundary) (s : State) :
    (tickIfDue b s = tick s ∧ frameDriverRuns s = true ∧ HostAct.reset ∉ b.acts ∧ s.driver.quit = false ∧
      tickIsDue b s = true) ∨ tickIfDue b s = s := by
  unfold tickIfDue
  split
  · rename_i h
    simp only [resetThisTurn, Bool.and_eq_true, Bool.not_eq_true', List.contains_eq_mem, decide_eq_false_iff_not] at h
    exact .inl ⟨rfl, h.1.1.1, h.1.1.2, h.1.2, h.2⟩
  · exact .inr rfl

/-- A Reset after this turn's instruction leaves no Tick in the turn (R275). -/
theorem tickIfDue_of_reset (b : Boundary) (s : State) (h : HostAct.reset ∈ b.acts) : tickIfDue b s = s := by
  obtain ⟨-, -, hn, -⟩ | h' := tickIfDue_cases b s
  · exact absurd h hn
  · exact h'

end Sys2Proof.Machine
end

