-- ==== Sys2Proof/Laws/Exec.lean ====
section
/-! SUPPORT. What exec does with each family of opcodes, and a case analysis of an instruction by family. -/

namespace Sys2Proof.Machine

/-! ## exec of a family is the family's operation -/

theorem exec_movRR (dst src : Reg) (s : State) : exec (.movRR dst src) s = .next (moveRegReg dst src s) := by
  cases dst <;> cases src <;> rfl

theorem exec_movRM (dst : Reg) (s : State) : exec (.movRM dst) s = .next (moveRegMem dst s) := by
  cases dst <;> rfl

theorem exec_movMR (r : Reg) (s : State) : exec (.movMR r) s = .next (moveMemReg r s) := by
  cases r <;> rfl

theorem exec_mviR (dst : Reg) (v : Byte) (s : State) : exec (.mviR dst v) s = .next (moveRegImm dst v s) := by
  cases dst <;> rfl

theorem exec_lxi (p : RP) (w : Word) (s : State) : exec (.lxi p w) s = .next (loadPairImm p w s) := by
  rcases p with ⟨_ | _ | _⟩ | _ <;> rfl

theorem exec_ldax (p : AddrPair) (s : State) : exec (.ldax p) s = .next (loadIndirect p s) := by
  cases p <;> rfl

theorem exec_stax (p : AddrPair) (s : State) : exec (.stax p) s = .next (storeIndirect p s) := by
  cases p <;> rfl

theorem exec_add (x : R8) (s : State) : exec (.alu .add x) s = .next (addReg x s) := by
  rcases x with ⟨_ | _ | _ | _ | _ | _ | _⟩ | _ <;> rfl

theorem exec_adc (x : R8) (s : State) : exec (.alu .adc x) s = .next (addCarryReg x s) := by
  rcases x with ⟨_ | _ | _ | _ | _ | _ | _⟩ | _ <;> rfl

theorem exec_sub (x : R8) (s : State) : exec (.alu .sub x) s = .next (subReg x s) := by
  rcases x with ⟨_ | _ | _ | _ | _ | _ | _⟩ | _ <;> rfl

theorem exec_sbb (x : R8) (s : State) : exec (.alu .sbb x) s = .next (subBorrowReg x s) := by
  rcases x with ⟨_ | _ | _ | _ | _ | _ | _⟩ | _ <;> rfl

theorem exec_ana (x : R8) (s : State) : exec (.alu .ana x) s = .next (andReg x s) := by
  rcases x with ⟨_ | _ | _ | _ | _ | _ | _⟩ | _ <;> rfl

theorem exec_xra (x : R8) (s : State) : exec (.alu .xra x) s = .next (xorReg x s) := by
  rcases x with ⟨_ | _ | _ | _ | _ | _ | _⟩ | _ <;> rfl

theorem exec_ora (x : R8) (s : State) : exec (.alu .ora x) s = .next (orReg x s) := by
  rcases x with ⟨_ | _ | _ | _ | _ | _ | _⟩ | _ <;> rfl

theorem exec_cmp (x : R8) (s : State) : exec (.alu .cmp x) s = .next (compareReg x s) := by
  rcases x with ⟨_ | _ | _ | _ | _ | _ | _⟩ | _ <;> rfl

theorem exec_inr (x : R8) (s : State) : exec (.inr x) s = .next (increment x s) := by
  rcases x with ⟨_ | _ | _ | _ | _ | _ | _⟩ | _ <;> rfl

theorem exec_dcr (x : R8) (s : State) : exec (.dcr x) s = .next (decrement x s) := by
  rcases x with ⟨_ | _ | _ | _ | _ | _ | _⟩ | _ <;> rfl

theorem exec_inx (p : RP) (s : State) : exec (.inx p) s = .next (incrementPair p s) := by
  rcases p with ⟨_ | _ | _⟩ | _ <;> rfl

theorem exec_dcx (p : RP) (s : State) : exec (.dcx p) s = .next (decrementPair p s) := by
  rcases p with ⟨_ | _ | _⟩ | _ <;> rfl

theorem exec_dad (p : RP) (s : State) : exec (.dad p) s = .next (addPair p s) := by
  rcases p with ⟨_ | _ | _⟩ | _ <;> rfl

theorem exec_jumpIf (k : Cond) (w : Word) (s : State) : exec (.jumpIf k w) s = .next (jumpWhen k w s) := by
  cases k <;> rfl

theorem exec_callIf (k : Cond) (w : Word) (s : State) : exec (.callIf k w) s = .next (callWhen k w s) := by
  cases k <;> rfl

theorem exec_retIf (k : Cond) (s : State) : exec (.retIf k) s = .next (returnWhen k s) := by
  cases k <;> rfl

theorem exec_push (p : Pair) (s : State) : exec (.push p) s = .next (pushPair p s) := by
  cases p <;> rfl

theorem exec_pop (p : Pair) (s : State) : exec (.pop p) s = .next (popPair p s) := by
  cases p <;> rfl

theorem exec_rst (n : Fin 8) (s : State) : exec (.rst n) s = .next (restart n.val s) := by
  match n with
  | 0 | 1 | 2 | 3 | 4 | 5 | 6 | 7 => rfl

theorem exec_jumps {w : Word} {i : Instr} (h : i ∈ Instr.jumps w) (s : State) : exec i s = .next (jumpTo w s) := by
  simp only [Instr.jumps, List.mem_cons, List.not_mem_nil, or_false] at h
  rcases h with rfl | rfl <;> rfl

theorem exec_calls {w : Word} {i : Instr} (h : i ∈ Instr.calls w) (s : State) :
    exec i s = .next (callAddress w s) := by
  simp only [Instr.calls, List.mem_cons, List.not_mem_nil, or_false] at h
  rcases h with rfl | rfl | rfl | rfl <;> rfl

theorem exec_returns {i : Instr} (h : i ∈ Instr.returns) (s : State) : exec i s = .next (returnAlways s) := by
  simp only [Instr.returns, List.mem_cons, List.not_mem_nil, or_false] at h
  rcases h with rfl | rfl <;> rfl

theorem exec_reservedNops {i : Instr} (h : i ∈ Instr.reservedNops) (s : State) : exec i s = .next (s.charge 4) := by
  simp only [Instr.reservedNops, List.mem_cons, List.not_mem_nil, or_false] at h
  rcases h with rfl | rfl | rfl | rfl | rfl | rfl | rfl <;> rfl

/-! ## Case analysis by family -/

/-- To prove something of every instruction, prove it family by family. -/
theorem Instr.by_family {P : Instr → Prop}
    (hmovRR : ∀ dst src, P (.movRR dst src))
    (hmovRM : ∀ dst, P (.movRM dst))
    (hmovMR : ∀ r, P (.movMR r))
    (hmviR : ∀ dst v, P (.mviR dst v))
    (hmviM : ∀ v, P (.mviM v))
    (hlxi : ∀ p w, P (.lxi p w))
    (hlda : ∀ w, P (.lda w))
    (hsta : ∀ w, P (.sta w))
    (hlhld : ∀ w, P (.lhld w))
    (hshld : ∀ w, P (.shld w))
    (hldax : ∀ p, P (.ldax p))
    (hstax : ∀ p, P (.stax p))
    (hxchg : P (.xchg))
    (hxthl : P (.xthl))
    (hsphl : P (.sphl))
    (hpchl : P (.pchl))
    (halu : ∀ o x, P (.alu o x))
    (haluImm : ∀ o v, P (.aluImm o v))
    (hinr : ∀ x, P (.inr x))
    (hdcr : ∀ x, P (.dcr x))
    (hinx : ∀ p, P (.inx p))
    (hdcx : ∀ p, P (.dcx p))
    (hdad : ∀ p, P (.dad p))
    (hdaa : P (.daa))
    (hcma : P (.cma))
    (hcmc : P (.cmc))
    (hstc : P (.stc))
    (hrlc : P (.rlc))
    (hrrc : P (.rrc))
    (hral : P (.ral))
    (hrar : P (.rar))
    (hjumps : ∀ w, ∀ i ∈ Instr.jumps w, P i)
    (hjumpIf : ∀ k w, P (.jumpIf k w))
    (hcalls : ∀ w, ∀ i ∈ Instr.calls w, P i)
    (hcallIf : ∀ k w, P (.callIf k w))
    (hreturns : ∀ i ∈ Instr.returns, P i)
    (hretIf : ∀ k, P (.retIf k))
    (hrst : ∀ n, P (.rst n))
    (hpush : ∀ p, P (.push p))
    (hpop : ∀ p, P (.pop p))
    (hpushPsw : P (.pushPsw))
    (hpopPsw : P (.popPsw))
    (hinPort : ∀ v, P (.inPort v))
    (houtPort : ∀ v, P (.outPort v))
    (hei : P (.ei))
    (hdi : P (.di))
    (hhlt : P (.hlt))
    (hnop : P (.nop))
    (hreservedNops : ∀ i ∈ Instr.reservedNops, P i)
    (i : Instr) : P i := by
  cases i with
  | movBB => exact hmovRR .b .b
  | movBC => exact hmovRR .b .c
  | movBD => exact hmovRR .b .d
  | movBE => exact hmovRR .b .e
  | movBH => exact hmovRR .b .h
  | movBL => exact hmovRR .b .l
  | movBA => exact hmovRR .b .a
  | movCB => exact hmovRR .c .b
  | movCC => exact hmovRR .c .c
  | movCD => exact hmovRR .c .d
  | movCE => exact hmovRR .c .e
  | movCH => exact hmovRR .c .h
  | movCL => exact hmovRR .c .l
  | movCA => exact hmovRR .c .a
  | movDB => exact hmovRR .d .b
  | movDC => exact hmovRR .d .c
  | movDD => exact hmovRR .d .d
  | movDE => exact hmovRR .d .e
  | movDH => exact hmovRR .d .h
  | movDL => exact hmovRR .d .l
  | movDA => exact hmovRR .d .a
  | movEB => exact hmovRR .e .b
  | movEC => exact hmovRR .e .c
  | movED => exact hmovRR .e .d
  | movEE => exact hmovRR .e .e
  | movEH => exact hmovRR .e .h
  | movEL => exact hmovRR .e .l
  | movEA => exact hmovRR .e .a
  | movHB => exact hmovRR .h .b
  | movHC => exact hmovRR .h .c
  | movHD => exact hmovRR .h .d
  | movHE => exact hmovRR .h .e
  | movHH => exact hmovRR .h .h
  | movHL => exact hmovRR .h .l
  | movHA => exact hmovRR .h .a
  | movLB => exact hmovRR .l .b
  | movLC => exact hmovRR .l .c
  | movLD => exact hmovRR .l .d
  | movLE => exact hmovRR .l .e
  | movLH => exact hmovRR .l .h
  | movLL => exact hmovRR .l .l
  | movLA => exact hmovRR .l .a
  | movAB => exact hmovRR .a .b
  | movAC => exact hmovRR .a .c
  | movAD => exact hmovRR .a .d
  | movAE => exact hmovRR .a .e
  | movAH => exact hmovRR .a .h
  | movAL => exact hmovRR .a .l
  | movAA => exact hmovRR .a .a
  | movBM => exact hmovRM .b
  | movCM => exact hmovRM .c
  | movDM => exact hmovRM .d
  | movEM => exact hmovRM .e
  | movHM => exact hmovRM .h
  | movLM => exact hmovRM .l
  | movAM => exact hmovRM .a
  | movMB => exact hmovMR .b
  | movMC => exact hmovMR .c
  | movMD => exact hmovMR .d
  | movME => exact hmovMR .e
  | movMH => exact hmovMR .h
  | movML => exact hmovMR .l
  | movMA => exact hmovMR .a
  | mviB v => exact hmviR .b v
  | mviC v => exact hmviR .c v
  | mviD v => exact hmviR .d v
  | mviE v => exact hmviR .e v
  | mviH v => exact hmviR .h v
  | mviL v => exact hmviR .l v
  | mviA v => exact hmviR .a v
  | mviM v => exact hmviM v
  | lxiB w => exact hlxi (.pair .bc) w
  | lxiD w => exact hlxi (.pair .de) w
  | lxiH w => exact hlxi (.pair .hl) w
  | lxiSp w => exact hlxi .sp w
  | lda w => exact hlda w
  | sta w => exact hsta w
  | lhld w => exact hlhld w
  | shld w => exact hshld w
  | ldaxB => exact hldax .bc
  | ldaxD => exact hldax .de
  | staxB => exact hstax .bc
  | staxD => exact hstax .de
  | xchg => exact hxchg
  | xthl => exact hxthl
  | sphl => exact hsphl
  | pchl => exact hpchl
  | addB => exact halu .add (.reg .b)
  | addC => exact halu .add (.reg .c)
  | addD => exact halu .add (.reg .d)
  | addE => exact halu .add (.reg .e)
  | addH => exact halu .add (.reg .h)
  | addL => exact halu .add (.reg .l)
  | addM => exact halu .add .m
  | addA => exact halu .add (.reg .a)
  | adi v => exact haluImm .add v
  | adcB => exact halu .adc (.reg .b)
  | adcC => exact halu .adc (.reg .c)
  | adcD => exact halu .adc (.reg .d)
  | adcE => exact halu .adc (.reg .e)
  | adcH => exact halu .adc (.reg .h)
  | adcL => exact halu .adc (.reg .l)
  | adcM => exact halu .adc .m
  | adcA => exact halu .adc (.reg .a)
  | aci v => exact haluImm .adc v
  | subB => exact halu .sub (.reg .b)
  | subC => exact halu .sub (.reg .c)
  | subD => exact halu .sub (.reg .d)
  | subE => exact halu .sub (.reg .e)
  | subH => exact halu .sub (.reg .h)
  | subL => exact halu .sub (.reg .l)
  | subM => exact halu .sub .m
  | subA => exact halu .sub (.reg .a)
  | sui v => exact haluImm .sub v
  | sbbB => exact halu .sbb (.reg .b)
  | sbbC => exact halu .sbb (.reg .c)
  | sbbD => exact halu .sbb (.reg .d)
  | sbbE => exact halu .sbb (.reg .e)
  | sbbH => exact halu .sbb (.reg .h)
  | sbbL => exact halu .sbb (.reg .l)
  | sbbM => exact halu .sbb .m
  | sbbA => exact halu .sbb (.reg .a)
  | sbi v => exact haluImm .sbb v
  | inrB => exact hinr (.reg .b)
  | inrC => exact hinr (.reg .c)
  | inrD => exact hinr (.reg .d)
  | inrE => exact hinr (.reg .e)
  | inrH => exact hinr (.reg .h)
  | inrL => exact hinr (.reg .l)
  | inrM => exact hinr .m
  | inrA => exact hinr (.reg .a)
  | dcrB => exact hdcr (.reg .b)
  | dcrC => exact hdcr (.reg .c)
  | dcrD => exact hdcr (.reg .d)
  | dcrE => exact hdcr (.reg .e)
  | dcrH => exact hdcr (.reg .h)
  | dcrL => exact hdcr (.reg .l)
  | dcrM => exact hdcr .m
  | dcrA => exact hdcr (.reg .a)
  | inxB => exact hinx (.pair .bc)
  | inxD => exact hinx (.pair .de)
  | inxH => exact hinx (.pair .hl)
  | inxSp => exact hinx .sp
  | dcxB => exact hdcx (.pair .bc)
  | dcxD => exact hdcx (.pair .de)
  | dcxH => exact hdcx (.pair .hl)
  | dcxSp => exact hdcx .sp
  | dadB => exact hdad (.pair .bc)
  | dadD => exact hdad (.pair .de)
  | dadH => exact hdad (.pair .hl)
  | dadSp => exact hdad .sp
  | daa => exact hdaa
  | anaB => exact halu .ana (.reg .b)
  | anaC => exact halu .ana (.reg .c)
  | anaD => exact halu .ana (.reg .d)
  | anaE => exact halu .ana (.reg .e)
  | anaH => exact halu .ana (.reg .h)
  | anaL => exact halu .ana (.reg .l)
  | anaM => exact halu .ana .m
  | anaA => exact halu .ana (.reg .a)
  | ani v => exact haluImm .ana v
  | xraB => exact halu .xra (.reg .b)
  | xraC => exact halu .xra (.reg .c)
  | xraD => exact halu .xra (.reg .d)
  | xraE => exact halu .xra (.reg .e)
  | xraH => exact halu .xra (.reg .h)
  | xraL => exact halu .xra (.reg .l)
  | xraM => exact halu .xra .m
  | xraA => exact halu .xra (.reg .a)
  | xri v => exact haluImm .xra v
  | oraB => exact halu .ora (.reg .b)
  | oraC => exact halu .ora (.reg .c)
  | oraD => exact halu .ora (.reg .d)
  | oraE => exact halu .ora (.reg .e)
  | oraH => exact halu .ora (.reg .h)
  | oraL => exact halu .ora (.reg .l)
  | oraM => exact halu .ora .m
  | oraA => exact halu .ora (.reg .a)
  | ori v => exact haluImm .ora v
  | cma => exact hcma
  | cmc => exact hcmc
  | stc => exact hstc
  | rlc => exact hrlc
  | rrc => exact hrrc
  | ral => exact hral
  | rar => exact hrar
  | cmpB => exact halu .cmp (.reg .b)
  | cmpC => exact halu .cmp (.reg .c)
  | cmpD => exact halu .cmp (.reg .d)
  | cmpE => exact halu .cmp (.reg .e)
  | cmpH => exact halu .cmp (.reg .h)
  | cmpL => exact halu .cmp (.reg .l)
  | cmpM => exact halu .cmp .m
  | cmpA => exact halu .cmp (.reg .a)
  | cpi v => exact haluImm .cmp v
  | jmp w => exact hjumps w _ (by simp [Instr.jumps])
  | jmpAliasCB w => exact hjumps w _ (by simp [Instr.jumps])
  | jnz w => exact hjumpIf .nz w
  | jz w => exact hjumpIf .z w
  | jnc w => exact hjumpIf .nc w
  | jc w => exact hjumpIf .c w
  | jpo w => exact hjumpIf .po w
  | jpe w => exact hjumpIf .pe w
  | jp w => exact hjumpIf .p w
  | jm w => exact hjumpIf .m w
  | call w => exact hcalls w _ (by simp [Instr.calls])
  | callAliasDD w => exact hcalls w _ (by simp [Instr.calls])
  | callAliasED w => exact hcalls w _ (by simp [Instr.calls])
  | callAliasFD w => exact hcalls w _ (by simp [Instr.calls])
  | cnz w => exact hcallIf .nz w
  | cz w => exact hcallIf .z w
  | cnc w => exact hcallIf .nc w
  | cc w => exact hcallIf .c w
  | cpo w => exact hcallIf .po w
  | cpe w => exact hcallIf .pe w
  | cp w => exact hcallIf .p w
  | cm w => exact hcallIf .m w
  | ret => exact hreturns _ (by simp [Instr.returns])
  | retAliasD9 => exact hreturns _ (by simp [Instr.returns])
  | rnz => exact hretIf .nz
  | rz => exact hretIf .z
  | rnc => exact hretIf .nc
  | rc => exact hretIf .c
  | rpo => exact hretIf .po
  | rpe => exact hretIf .pe
  | rp => exact hretIf .p
  | rm => exact hretIf .m
  | rst0 => exact hrst 0
  | rst1 => exact hrst 1
  | rst2 => exact hrst 2
  | rst3 => exact hrst 3
  | rst4 => exact hrst 4
  | rst5 => exact hrst 5
  | rst6 => exact hrst 6
  | rst7 => exact hrst 7
  | pushB => exact hpush .bc
  | pushD => exact hpush .de
  | pushH => exact hpush .hl
  | pushPsw => exact hpushPsw
  | popB => exact hpop .bc
  | popD => exact hpop .de
  | popH => exact hpop .hl
  | popPsw => exact hpopPsw
  | inPort v => exact hinPort v
  | outPort v => exact houtPort v
  | ei => exact hei
  | di => exact hdi
  | hlt => exact hhlt
  | nop => exact hnop
  | nopReserved08 => exact hreservedNops _ (by simp [Instr.reservedNops])
  | nopReserved10 => exact hreservedNops _ (by simp [Instr.reservedNops])
  | nopReserved18 => exact hreservedNops _ (by simp [Instr.reservedNops])
  | nopReserved20 => exact hreservedNops _ (by simp [Instr.reservedNops])
  | nopReserved28 => exact hreservedNops _ (by simp [Instr.reservedNops])
  | nopReserved30 => exact hreservedNops _ (by simp [Instr.reservedNops])
  | nopReserved38 => exact hreservedNops _ (by simp [Instr.reservedNops])

end Sys2Proof.Machine
end

