-- ==== Sys2Proof/Laws/PerInstr.lean ====
section
/-! SUPPORT. Laws said once for each instruction, one lemma for each constructor of `Instr`. -/

namespace Sys2Proof.Laws

/-- The length the opcode map's format gives the instruction's opcode byte is the number of bytes its encoding has (R70,
R71, R76). -/
def EncodedLength.Statement (i : Instr) : Prop :=
  (encode i).length =
    match formOf i.opcode with
    | .f1 _ => 1
    | .f2 _ => 2
    | .f3 _ => 3

theorem EncodedLength.movBB : EncodedLength.Statement .movBB := rfl
theorem EncodedLength.movBC : EncodedLength.Statement .movBC := rfl
theorem EncodedLength.movBD : EncodedLength.Statement .movBD := rfl
theorem EncodedLength.movBE : EncodedLength.Statement .movBE := rfl
theorem EncodedLength.movBH : EncodedLength.Statement .movBH := rfl
theorem EncodedLength.movBL : EncodedLength.Statement .movBL := rfl
theorem EncodedLength.movBA : EncodedLength.Statement .movBA := rfl
theorem EncodedLength.movCB : EncodedLength.Statement .movCB := rfl
theorem EncodedLength.movCC : EncodedLength.Statement .movCC := rfl
theorem EncodedLength.movCD : EncodedLength.Statement .movCD := rfl
theorem EncodedLength.movCE : EncodedLength.Statement .movCE := rfl
theorem EncodedLength.movCH : EncodedLength.Statement .movCH := rfl
theorem EncodedLength.movCL : EncodedLength.Statement .movCL := rfl
theorem EncodedLength.movCA : EncodedLength.Statement .movCA := rfl
theorem EncodedLength.movDB : EncodedLength.Statement .movDB := rfl
theorem EncodedLength.movDC : EncodedLength.Statement .movDC := rfl
theorem EncodedLength.movDD : EncodedLength.Statement .movDD := rfl
theorem EncodedLength.movDE : EncodedLength.Statement .movDE := rfl
theorem EncodedLength.movDH : EncodedLength.Statement .movDH := rfl
theorem EncodedLength.movDL : EncodedLength.Statement .movDL := rfl
theorem EncodedLength.movDA : EncodedLength.Statement .movDA := rfl
theorem EncodedLength.movEB : EncodedLength.Statement .movEB := rfl
theorem EncodedLength.movEC : EncodedLength.Statement .movEC := rfl
theorem EncodedLength.movED : EncodedLength.Statement .movED := rfl
theorem EncodedLength.movEE : EncodedLength.Statement .movEE := rfl
theorem EncodedLength.movEH : EncodedLength.Statement .movEH := rfl
theorem EncodedLength.movEL : EncodedLength.Statement .movEL := rfl
theorem EncodedLength.movEA : EncodedLength.Statement .movEA := rfl
theorem EncodedLength.movHB : EncodedLength.Statement .movHB := rfl
theorem EncodedLength.movHC : EncodedLength.Statement .movHC := rfl
theorem EncodedLength.movHD : EncodedLength.Statement .movHD := rfl
theorem EncodedLength.movHE : EncodedLength.Statement .movHE := rfl
theorem EncodedLength.movHH : EncodedLength.Statement .movHH := rfl
theorem EncodedLength.movHL : EncodedLength.Statement .movHL := rfl
theorem EncodedLength.movHA : EncodedLength.Statement .movHA := rfl
theorem EncodedLength.movLB : EncodedLength.Statement .movLB := rfl
theorem EncodedLength.movLC : EncodedLength.Statement .movLC := rfl
theorem EncodedLength.movLD : EncodedLength.Statement .movLD := rfl
theorem EncodedLength.movLE : EncodedLength.Statement .movLE := rfl
theorem EncodedLength.movLH : EncodedLength.Statement .movLH := rfl
theorem EncodedLength.movLL : EncodedLength.Statement .movLL := rfl
theorem EncodedLength.movLA : EncodedLength.Statement .movLA := rfl
theorem EncodedLength.movAB : EncodedLength.Statement .movAB := rfl
theorem EncodedLength.movAC : EncodedLength.Statement .movAC := rfl
theorem EncodedLength.movAD : EncodedLength.Statement .movAD := rfl
theorem EncodedLength.movAE : EncodedLength.Statement .movAE := rfl
theorem EncodedLength.movAH : EncodedLength.Statement .movAH := rfl
theorem EncodedLength.movAL : EncodedLength.Statement .movAL := rfl
theorem EncodedLength.movAA : EncodedLength.Statement .movAA := rfl
theorem EncodedLength.movBM : EncodedLength.Statement .movBM := rfl
theorem EncodedLength.movCM : EncodedLength.Statement .movCM := rfl
theorem EncodedLength.movDM : EncodedLength.Statement .movDM := rfl
theorem EncodedLength.movEM : EncodedLength.Statement .movEM := rfl
theorem EncodedLength.movHM : EncodedLength.Statement .movHM := rfl
theorem EncodedLength.movLM : EncodedLength.Statement .movLM := rfl
theorem EncodedLength.movAM : EncodedLength.Statement .movAM := rfl
theorem EncodedLength.movMB : EncodedLength.Statement .movMB := rfl
theorem EncodedLength.movMC : EncodedLength.Statement .movMC := rfl
theorem EncodedLength.movMD : EncodedLength.Statement .movMD := rfl
theorem EncodedLength.movME : EncodedLength.Statement .movME := rfl
theorem EncodedLength.movMH : EncodedLength.Statement .movMH := rfl
theorem EncodedLength.movML : EncodedLength.Statement .movML := rfl
theorem EncodedLength.movMA : EncodedLength.Statement .movMA := rfl
theorem EncodedLength.mviB (v : Byte) : EncodedLength.Statement (.mviB v) := rfl
theorem EncodedLength.mviC (v : Byte) : EncodedLength.Statement (.mviC v) := rfl
theorem EncodedLength.mviD (v : Byte) : EncodedLength.Statement (.mviD v) := rfl
theorem EncodedLength.mviE (v : Byte) : EncodedLength.Statement (.mviE v) := rfl
theorem EncodedLength.mviH (v : Byte) : EncodedLength.Statement (.mviH v) := rfl
theorem EncodedLength.mviL (v : Byte) : EncodedLength.Statement (.mviL v) := rfl
theorem EncodedLength.mviA (v : Byte) : EncodedLength.Statement (.mviA v) := rfl
theorem EncodedLength.mviM (v : Byte) : EncodedLength.Statement (.mviM v) := rfl
theorem EncodedLength.lxiB (w : Word) : EncodedLength.Statement (.lxiB w) := rfl
theorem EncodedLength.lxiD (w : Word) : EncodedLength.Statement (.lxiD w) := rfl
theorem EncodedLength.lxiH (w : Word) : EncodedLength.Statement (.lxiH w) := rfl
theorem EncodedLength.lxiSp (w : Word) : EncodedLength.Statement (.lxiSp w) := rfl
theorem EncodedLength.lda (w : Word) : EncodedLength.Statement (.lda w) := rfl
theorem EncodedLength.sta (w : Word) : EncodedLength.Statement (.sta w) := rfl
theorem EncodedLength.lhld (w : Word) : EncodedLength.Statement (.lhld w) := rfl
theorem EncodedLength.shld (w : Word) : EncodedLength.Statement (.shld w) := rfl
theorem EncodedLength.ldaxB : EncodedLength.Statement .ldaxB := rfl
theorem EncodedLength.ldaxD : EncodedLength.Statement .ldaxD := rfl
theorem EncodedLength.staxB : EncodedLength.Statement .staxB := rfl
theorem EncodedLength.staxD : EncodedLength.Statement .staxD := rfl
theorem EncodedLength.xchg : EncodedLength.Statement .xchg := rfl
theorem EncodedLength.xthl : EncodedLength.Statement .xthl := rfl
theorem EncodedLength.sphl : EncodedLength.Statement .sphl := rfl
theorem EncodedLength.pchl : EncodedLength.Statement .pchl := rfl
theorem EncodedLength.addB : EncodedLength.Statement .addB := rfl
theorem EncodedLength.addC : EncodedLength.Statement .addC := rfl
theorem EncodedLength.addD : EncodedLength.Statement .addD := rfl
theorem EncodedLength.addE : EncodedLength.Statement .addE := rfl
theorem EncodedLength.addH : EncodedLength.Statement .addH := rfl
theorem EncodedLength.addL : EncodedLength.Statement .addL := rfl
theorem EncodedLength.addM : EncodedLength.Statement .addM := rfl
theorem EncodedLength.addA : EncodedLength.Statement .addA := rfl
theorem EncodedLength.adi (v : Byte) : EncodedLength.Statement (.adi v) := rfl
theorem EncodedLength.adcB : EncodedLength.Statement .adcB := rfl
theorem EncodedLength.adcC : EncodedLength.Statement .adcC := rfl
theorem EncodedLength.adcD : EncodedLength.Statement .adcD := rfl
theorem EncodedLength.adcE : EncodedLength.Statement .adcE := rfl
theorem EncodedLength.adcH : EncodedLength.Statement .adcH := rfl
theorem EncodedLength.adcL : EncodedLength.Statement .adcL := rfl
theorem EncodedLength.adcM : EncodedLength.Statement .adcM := rfl
theorem EncodedLength.adcA : EncodedLength.Statement .adcA := rfl
theorem EncodedLength.aci (v : Byte) : EncodedLength.Statement (.aci v) := rfl
theorem EncodedLength.subB : EncodedLength.Statement .subB := rfl
theorem EncodedLength.subC : EncodedLength.Statement .subC := rfl
theorem EncodedLength.subD : EncodedLength.Statement .subD := rfl
theorem EncodedLength.subE : EncodedLength.Statement .subE := rfl
theorem EncodedLength.subH : EncodedLength.Statement .subH := rfl
theorem EncodedLength.subL : EncodedLength.Statement .subL := rfl
theorem EncodedLength.subM : EncodedLength.Statement .subM := rfl
theorem EncodedLength.subA : EncodedLength.Statement .subA := rfl
theorem EncodedLength.sui (v : Byte) : EncodedLength.Statement (.sui v) := rfl
theorem EncodedLength.sbbB : EncodedLength.Statement .sbbB := rfl
theorem EncodedLength.sbbC : EncodedLength.Statement .sbbC := rfl
theorem EncodedLength.sbbD : EncodedLength.Statement .sbbD := rfl
theorem EncodedLength.sbbE : EncodedLength.Statement .sbbE := rfl
theorem EncodedLength.sbbH : EncodedLength.Statement .sbbH := rfl
theorem EncodedLength.sbbL : EncodedLength.Statement .sbbL := rfl
theorem EncodedLength.sbbM : EncodedLength.Statement .sbbM := rfl
theorem EncodedLength.sbbA : EncodedLength.Statement .sbbA := rfl
theorem EncodedLength.sbi (v : Byte) : EncodedLength.Statement (.sbi v) := rfl
theorem EncodedLength.inrB : EncodedLength.Statement .inrB := rfl
theorem EncodedLength.inrC : EncodedLength.Statement .inrC := rfl
theorem EncodedLength.inrD : EncodedLength.Statement .inrD := rfl
theorem EncodedLength.inrE : EncodedLength.Statement .inrE := rfl
theorem EncodedLength.inrH : EncodedLength.Statement .inrH := rfl
theorem EncodedLength.inrL : EncodedLength.Statement .inrL := rfl
theorem EncodedLength.inrM : EncodedLength.Statement .inrM := rfl
theorem EncodedLength.inrA : EncodedLength.Statement .inrA := rfl
theorem EncodedLength.dcrB : EncodedLength.Statement .dcrB := rfl
theorem EncodedLength.dcrC : EncodedLength.Statement .dcrC := rfl
theorem EncodedLength.dcrD : EncodedLength.Statement .dcrD := rfl
theorem EncodedLength.dcrE : EncodedLength.Statement .dcrE := rfl
theorem EncodedLength.dcrH : EncodedLength.Statement .dcrH := rfl
theorem EncodedLength.dcrL : EncodedLength.Statement .dcrL := rfl
theorem EncodedLength.dcrM : EncodedLength.Statement .dcrM := rfl
theorem EncodedLength.dcrA : EncodedLength.Statement .dcrA := rfl
theorem EncodedLength.inxB : EncodedLength.Statement .inxB := rfl
theorem EncodedLength.inxD : EncodedLength.Statement .inxD := rfl
theorem EncodedLength.inxH : EncodedLength.Statement .inxH := rfl
theorem EncodedLength.inxSp : EncodedLength.Statement .inxSp := rfl
theorem EncodedLength.dcxB : EncodedLength.Statement .dcxB := rfl
theorem EncodedLength.dcxD : EncodedLength.Statement .dcxD := rfl
theorem EncodedLength.dcxH : EncodedLength.Statement .dcxH := rfl
theorem EncodedLength.dcxSp : EncodedLength.Statement .dcxSp := rfl
theorem EncodedLength.dadB : EncodedLength.Statement .dadB := rfl
theorem EncodedLength.dadD : EncodedLength.Statement .dadD := rfl
theorem EncodedLength.dadH : EncodedLength.Statement .dadH := rfl
theorem EncodedLength.dadSp : EncodedLength.Statement .dadSp := rfl
theorem EncodedLength.daa : EncodedLength.Statement .daa := rfl
theorem EncodedLength.anaB : EncodedLength.Statement .anaB := rfl
theorem EncodedLength.anaC : EncodedLength.Statement .anaC := rfl
theorem EncodedLength.anaD : EncodedLength.Statement .anaD := rfl
theorem EncodedLength.anaE : EncodedLength.Statement .anaE := rfl
theorem EncodedLength.anaH : EncodedLength.Statement .anaH := rfl
theorem EncodedLength.anaL : EncodedLength.Statement .anaL := rfl
theorem EncodedLength.anaM : EncodedLength.Statement .anaM := rfl
theorem EncodedLength.anaA : EncodedLength.Statement .anaA := rfl
theorem EncodedLength.ani (v : Byte) : EncodedLength.Statement (.ani v) := rfl
theorem EncodedLength.xraB : EncodedLength.Statement .xraB := rfl
theorem EncodedLength.xraC : EncodedLength.Statement .xraC := rfl
theorem EncodedLength.xraD : EncodedLength.Statement .xraD := rfl
theorem EncodedLength.xraE : EncodedLength.Statement .xraE := rfl
theorem EncodedLength.xraH : EncodedLength.Statement .xraH := rfl
theorem EncodedLength.xraL : EncodedLength.Statement .xraL := rfl
theorem EncodedLength.xraM : EncodedLength.Statement .xraM := rfl
theorem EncodedLength.xraA : EncodedLength.Statement .xraA := rfl
theorem EncodedLength.xri (v : Byte) : EncodedLength.Statement (.xri v) := rfl
theorem EncodedLength.oraB : EncodedLength.Statement .oraB := rfl
theorem EncodedLength.oraC : EncodedLength.Statement .oraC := rfl
theorem EncodedLength.oraD : EncodedLength.Statement .oraD := rfl
theorem EncodedLength.oraE : EncodedLength.Statement .oraE := rfl
theorem EncodedLength.oraH : EncodedLength.Statement .oraH := rfl
theorem EncodedLength.oraL : EncodedLength.Statement .oraL := rfl
theorem EncodedLength.oraM : EncodedLength.Statement .oraM := rfl
theorem EncodedLength.oraA : EncodedLength.Statement .oraA := rfl
theorem EncodedLength.ori (v : Byte) : EncodedLength.Statement (.ori v) := rfl
theorem EncodedLength.cma : EncodedLength.Statement .cma := rfl
theorem EncodedLength.cmc : EncodedLength.Statement .cmc := rfl
theorem EncodedLength.stc : EncodedLength.Statement .stc := rfl
theorem EncodedLength.rlc : EncodedLength.Statement .rlc := rfl
theorem EncodedLength.rrc : EncodedLength.Statement .rrc := rfl
theorem EncodedLength.ral : EncodedLength.Statement .ral := rfl
theorem EncodedLength.rar : EncodedLength.Statement .rar := rfl
theorem EncodedLength.cmpB : EncodedLength.Statement .cmpB := rfl
theorem EncodedLength.cmpC : EncodedLength.Statement .cmpC := rfl
theorem EncodedLength.cmpD : EncodedLength.Statement .cmpD := rfl
theorem EncodedLength.cmpE : EncodedLength.Statement .cmpE := rfl
theorem EncodedLength.cmpH : EncodedLength.Statement .cmpH := rfl
theorem EncodedLength.cmpL : EncodedLength.Statement .cmpL := rfl
theorem EncodedLength.cmpM : EncodedLength.Statement .cmpM := rfl
theorem EncodedLength.cmpA : EncodedLength.Statement .cmpA := rfl
theorem EncodedLength.cpi (v : Byte) : EncodedLength.Statement (.cpi v) := rfl
theorem EncodedLength.jmp (w : Word) : EncodedLength.Statement (.jmp w) := rfl
theorem EncodedLength.jmpAliasCB (w : Word) : EncodedLength.Statement (.jmpAliasCB w) := rfl
theorem EncodedLength.jnz (w : Word) : EncodedLength.Statement (.jnz w) := rfl
theorem EncodedLength.jz (w : Word) : EncodedLength.Statement (.jz w) := rfl
theorem EncodedLength.jnc (w : Word) : EncodedLength.Statement (.jnc w) := rfl
theorem EncodedLength.jc (w : Word) : EncodedLength.Statement (.jc w) := rfl
theorem EncodedLength.jpo (w : Word) : EncodedLength.Statement (.jpo w) := rfl
theorem EncodedLength.jpe (w : Word) : EncodedLength.Statement (.jpe w) := rfl
theorem EncodedLength.jp (w : Word) : EncodedLength.Statement (.jp w) := rfl
theorem EncodedLength.jm (w : Word) : EncodedLength.Statement (.jm w) := rfl
theorem EncodedLength.call (w : Word) : EncodedLength.Statement (.call w) := rfl
theorem EncodedLength.callAliasDD (w : Word) : EncodedLength.Statement (.callAliasDD w) := rfl
theorem EncodedLength.callAliasED (w : Word) : EncodedLength.Statement (.callAliasED w) := rfl
theorem EncodedLength.callAliasFD (w : Word) : EncodedLength.Statement (.callAliasFD w) := rfl
theorem EncodedLength.cnz (w : Word) : EncodedLength.Statement (.cnz w) := rfl
theorem EncodedLength.cz (w : Word) : EncodedLength.Statement (.cz w) := rfl
theorem EncodedLength.cnc (w : Word) : EncodedLength.Statement (.cnc w) := rfl
theorem EncodedLength.cc (w : Word) : EncodedLength.Statement (.cc w) := rfl
theorem EncodedLength.cpo (w : Word) : EncodedLength.Statement (.cpo w) := rfl
theorem EncodedLength.cpe (w : Word) : EncodedLength.Statement (.cpe w) := rfl
theorem EncodedLength.cp (w : Word) : EncodedLength.Statement (.cp w) := rfl
theorem EncodedLength.cm (w : Word) : EncodedLength.Statement (.cm w) := rfl
theorem EncodedLength.ret : EncodedLength.Statement .ret := rfl
theorem EncodedLength.retAliasD9 : EncodedLength.Statement .retAliasD9 := rfl
theorem EncodedLength.rnz : EncodedLength.Statement .rnz := rfl
theorem EncodedLength.rz : EncodedLength.Statement .rz := rfl
theorem EncodedLength.rnc : EncodedLength.Statement .rnc := rfl
theorem EncodedLength.rc : EncodedLength.Statement .rc := rfl
theorem EncodedLength.rpo : EncodedLength.Statement .rpo := rfl
theorem EncodedLength.rpe : EncodedLength.Statement .rpe := rfl
theorem EncodedLength.rp : EncodedLength.Statement .rp := rfl
theorem EncodedLength.rm : EncodedLength.Statement .rm := rfl
theorem EncodedLength.rst0 : EncodedLength.Statement .rst0 := rfl
theorem EncodedLength.rst1 : EncodedLength.Statement .rst1 := rfl
theorem EncodedLength.rst2 : EncodedLength.Statement .rst2 := rfl
theorem EncodedLength.rst3 : EncodedLength.Statement .rst3 := rfl
theorem EncodedLength.rst4 : EncodedLength.Statement .rst4 := rfl
theorem EncodedLength.rst5 : EncodedLength.Statement .rst5 := rfl
theorem EncodedLength.rst6 : EncodedLength.Statement .rst6 := rfl
theorem EncodedLength.rst7 : EncodedLength.Statement .rst7 := rfl
theorem EncodedLength.pushB : EncodedLength.Statement .pushB := rfl
theorem EncodedLength.pushD : EncodedLength.Statement .pushD := rfl
theorem EncodedLength.pushH : EncodedLength.Statement .pushH := rfl
theorem EncodedLength.pushPsw : EncodedLength.Statement .pushPsw := rfl
theorem EncodedLength.popB : EncodedLength.Statement .popB := rfl
theorem EncodedLength.popD : EncodedLength.Statement .popD := rfl
theorem EncodedLength.popH : EncodedLength.Statement .popH := rfl
theorem EncodedLength.popPsw : EncodedLength.Statement .popPsw := rfl
theorem EncodedLength.inPort (v : Byte) : EncodedLength.Statement (.inPort v) := rfl
theorem EncodedLength.outPort (v : Byte) : EncodedLength.Statement (.outPort v) := rfl
theorem EncodedLength.ei : EncodedLength.Statement .ei := rfl
theorem EncodedLength.di : EncodedLength.Statement .di := rfl
theorem EncodedLength.hlt : EncodedLength.Statement .hlt := rfl
theorem EncodedLength.nop : EncodedLength.Statement .nop := rfl
theorem EncodedLength.nopReserved08 : EncodedLength.Statement .nopReserved08 := rfl
theorem EncodedLength.nopReserved10 : EncodedLength.Statement .nopReserved10 := rfl
theorem EncodedLength.nopReserved18 : EncodedLength.Statement .nopReserved18 := rfl
theorem EncodedLength.nopReserved20 : EncodedLength.Statement .nopReserved20 := rfl
theorem EncodedLength.nopReserved28 : EncodedLength.Statement .nopReserved28 := rfl
theorem EncodedLength.nopReserved30 : EncodedLength.Statement .nopReserved30 := rfl
theorem EncodedLength.nopReserved38 : EncodedLength.Statement .nopReserved38 := rfl

end Sys2Proof.Laws
end

