-- ==== Sys2Proof/Tests/Slice0.lean ====
section
/-! SUPPORT. The model's own tests: WellFormed's refusals, words of the opcode map, worked examples of spec/95_test_vectors.md
(the V, S and P numbers in the comments are its own), and a witness for each statement's hypotheses. -/

namespace Sys2Proof.Tests

open Sys2Proof Sys2Proof.Machine Sys2Proof.Stmt

/-! ## WellFormed: what each check refuses -/

theorem test_wellFormed_vector_zero_refused : vectorWellFormed 0 = false := by decide
theorem test_wellFormed_vector_eight_refused : vectorWellFormed 8 = false := by decide
theorem test_wellFormed_vector_bounds_accepted : vectorWellFormed 1 = true ∧ vectorWellFormed 7 = true := by decide
theorem test_wellFormed_input_port_refused :
    inputWellFormed 0 0 = false ∧ inputWellFormed 3 0 = false := by decide
theorem test_wellFormed_input_bit_refused : inputWellFormed 1 8 = false := by decide
theorem test_wellFormed_input_bounds_accepted : inputWellFormed 1 0 = true ∧ inputWellFormed 2 7 = true := by decide
theorem test_wellFormed_act_refused :
    (HostAct.interrupt 8).wellFormed = false ∧ (HostAct.enqueue 3 0 true).wellFormed = false := by decide
theorem test_wellFormed_boundary_act_refused : (Boundary.mk [.quit, .interrupt 0] false []).wellFormed = false := by
  decide
theorem test_wellFormed_boundary_late_act_refused : (Boundary.mk [] true [.enqueue 1 8 true]).wellFormed = false := by
  decide

/-! ## Decoding: words written out from R71 and R76 -/

theorem test_decode_mov_b_c : decode [0b01000001] = .ok (.movBC, []) := rfl
theorem test_decode_mov_a_m : decode [0b01111110] = .ok (.movAM, []) := rfl
theorem test_decode_mvi_m : decode [0b00110110, 0x7B] = .ok (.mviM 0x7B, []) := rfl
theorem test_decode_lxi_b : decode [0x01, 0x02, 0x03] = .ok (.lxiB 0x0302, []) := rfl
theorem test_decode_dad_sp : decode [0b00111001] = .ok (.dadSp, []) := rfl
theorem test_decode_sbb_l : decode [0b10011101] = .ok (.sbbL, []) := rfl
theorem test_decode_xri : decode [0b11101110, 0x81] = .ok (.xri 0x81, []) := rfl
theorem test_decode_rar : decode [0b00011111] = .ok (.rar, []) := rfl
theorem test_decode_cmp_m : decode [0b10111110] = .ok (.cmpM, []) := rfl
theorem test_decode_jm : decode [0b11111010, 0x34, 0x12] = .ok (.jm 0x1234, []) := rfl
theorem test_decode_rst_5 : decode [0b11101111] = .ok (.rst5, []) := rfl
theorem test_decode_pop_psw : decode [0b11110001] = .ok (.popPsw, []) := rfl
theorem test_decode_out : decode [0xD3, 0x04] = .ok (.outPort 0x04, []) := rfl
theorem test_decode_hlt_is_no_mov : decode [0b01110110] = .ok (.hlt, []) := rfl
theorem test_decode_aliases : decode [0xD9] = .ok (.retAliasD9, []) ∧
    decode [0xFD, 0x00, 0x30] = .ok (.callAliasFD 0x3000, []) := ⟨rfl, rfl⟩
theorem test_decode_rejects_missing_operand : decode [0xC3, 0x00] = .error .missingOperand := rfl
theorem test_decode_rejects_nothing : decode [] = .error .noOpcode := rfl
theorem test_decode_table_word_zero_operands : decodeTableWord 8 0xC3 = some (.jmp 0x0000) := by decide

/-! ## States for the tests -/

/-- Flags from five digits, in the order S Z AC P CY. -/
def fl (s z ac p cy : Nat) : Flags := ⟨s == 1, z == 1, ac == 1, p == 1, cy == 1⟩

/-- A state after reset with some registers, flags and bytes of memory set. -/
def st (rs : List (Reg × Byte)) (f : Flags := fl 0 0 0 0 0) (m : List (Word × Byte) := []) : State :=
  m.foldl (fun s c => s.write8 c.1 c.2) ((rs.foldl (fun s r => s.setReg r.1 r.2) State.reset).setFlags f)

/-- The state an answer leads to; the second state where there is none. -/
def orElse (r : Result) (s : State) : State :=
  match r with
  | .next t => t
  | .fault _ => s
  | .refused _ => s

/-- The state after an instruction's meaning. -/
def after (i : Instr) (s : State) : State := orElse (exec i s) s

/-- The state after one step. -/
def stepped (s : State) : State := orElse (step s) s

/-- A and the flags. -/
def af (s : State) : Byte × Flags := (s.reg .a, s.flags)

/-! ## Data movement -/

theorem test_mov_h_m_uses_old_hl : -- R102, corner case
    (after .movHM (st [(.h, 0x20)] (m := [(0x2000, 0x5A)]))).pair .hl = 0x5A00 := by decide
theorem test_mov_m_h : (after .movMH (st [(.h, 0x20), (.l, 0x20)])).mem = [(0x2020, 0x20)] := by decide -- V5
theorem test_mvi_m : (after (.mviM 0x7B) (st [(.h, 0x3F), (.l, 0xFF)])).mem = [(0x3FFF, 0x7B)] := by decide -- V7
theorem test_lxi_b : (after (.lxiB 0x0302) (st [])).regs = ⟨0, 3, 2, 0, 0, 0, 0⟩ := by decide -- S1
theorem test_lhld_wraps : -- V13
    (after (.lhld 0xFFFF) (st [] (m := [(0xFFFF, 0xEE), (0x0000, 0xDD)]))).pair .hl = 0xDDEE := by decide
theorem test_shld : -- V14
    (after (.shld 0x2000) (st [(.h, 0xAE), (.l, 0x29)])).mem = [(0x2000, 0x29), (0x2001, 0xAE)] := by decide
theorem test_stax_b : -- V17
    (after .staxB (st [(.a, 0x55), (.b, 0x3F), (.c, 0x16)])).mem = [(0x3F16, 0x55)] := by decide
theorem test_ldax_d : (after .ldaxD (st [(.d, 0x20), (.e, 0x06)] (m := [(0x2006, 0x01)]))).reg .a = 0x01 := by
  decide -- V16
theorem test_xchg : -- V19
    (after .xchg (st [(.d, 0x33), (.e, 0x55), (.l, 0xFF)])).regs = ⟨0, 0, 0, 0, 0xFF, 0x33, 0x55⟩ := by decide
theorem test_xthl_wraps : -- V21
    let t := after .xthl ((st [(.h, 0x12), (.l, 0x34)] (m := [(0xFFFF, 0xAA), (0x0000, 0xBB)])).setSp 0xFFFF)
    t.pair .hl = 0xBBAA ∧ t.mem = [(0x0000, 0x12), (0xFFFF, 0x34)] ∧ t.sp = 0xFFFF := by decide
theorem test_sphl : (after .sphl (st [(.h, 0x50), (.l, 0x6C)])).sp = 0x506C := by decide -- V22
theorem test_pchl : (after .pchl (st [(.h, 0x41), (.l, 0x3E)])).pc = 0x413E := by decide -- V23
theorem test_store_of_zero_lists_nothing : (after (.sta 0x2000) (st [] (m := [(0x2000, 0x77)]))).mem = [] := by
  decide -- the canonical form of memory

/-! ## Arithmetic -/

theorem test_add_b : af (after .addB (st [(.a, 0x6C), (.b, 0x2E)])) = (0x9A, fl 1 0 1 1 0) := by decide -- V30
theorem test_add_wraps : af (after .addC (st [(.a, 0xFF), (.c, 0x01)])) = (0x00, fl 0 1 1 1 1) := by decide -- V33
theorem test_adc_carry_in : -- V38
    af (after .adcB (st [(.a, 0x0F), (.b, 0xF0)] (fl 0 0 0 0 1))) = (0x00, fl 0 1 1 1 1) := by decide
theorem test_aci : af (after (.aci 0x00) (st [(.a, 0x7F)] (fl 0 0 0 0 1))) = (0x80, fl 1 0 1 0 0) := by decide -- V39
theorem test_sub_b : af (after .subB (st [(.a, 0x05), (.b, 0x06)])) = (0xFF, fl 1 0 1 1 1) := by decide -- V41
theorem test_sui : af (after (.sui 0x01) (st [])) = (0xFF, fl 1 0 1 1 1) := by decide -- V43
theorem test_sbb_full_borrow : -- V45
    af (after .sbbB (st [(.b, 0xFF)] (fl 0 0 0 0 1))) = (0x00, fl 0 1 1 1 1) := by decide
theorem test_sbb_nibble : -- V46
    af (after .sbbB (st [(.a, 0x10), (.b, 0x0F)] (fl 0 0 0 0 1))) = (0x00, fl 0 1 1 1 0) := by decide
theorem test_inr_keeps_cy : (after .inrB (st [(.b, 0x7F)] (fl 0 0 0 0 1))).flags = fl 1 0 1 0 1 := by decide -- V49
theorem test_inr_m : (after .inrM (st [(.h, 0x20)] (m := [(0x2000, 0x0F)]))).mem = [(0x2000, 0x10)] := by decide -- V50
theorem test_dcr_a : af (after .dcrA (st [])) = (0xFF, fl 1 0 1 1 0) := by decide -- V51
theorem test_dcr_m : -- V53
    (after .dcrM (st [(.h, 0x20)] (m := [(0x2000, 0x10)]))).flags = fl 0 0 1 1 0 := by decide
theorem test_inx_carries : (after .inxD (st [(.d, 0x38), (.e, 0xFF)])).pair .de = 0x3900 := by decide -- V55
theorem test_dcx_wraps : (after .dcxB (st [])).pair .bc = 0xFFFF := by decide -- V56
theorem test_dad_b : -- S2
    let t := after .dadB (st [(.h, 0xF0), (.l, 0x12), (.b, 0x44), (.c, 0x55)] (fl 1 1 1 1 0))
    t.pair .hl = 0x3467 ∧ t.flags = fl 1 1 1 1 1 := by decide
theorem test_daa_nibble_and_carry : af (after .daa (st [(.a, 0x9B)])) = (0x01, fl 0 0 1 0 1) := by decide -- V61
theorem test_daa_clears_ac : af (after .daa (st [(.a, 0x05)] (fl 0 0 1 0 0))) = (0x0B, fl 0 0 0 0 0) := by decide -- V64

/-! ## Logic, rotates, compare -/

theorem test_ana_ac_is_or_of_bit_3 : -- V81
    af (after .anaB (st [(.a, 0x08)])) = (0x00, fl 0 1 1 1 0) := by decide
theorem test_ani : af (after (.ani 0x00) (st [(.a, 0xF7)] (fl 0 0 0 0 1))) = (0x00, fl 0 1 0 1 0) := by decide -- V85
theorem test_xra_b : af (after .xraB (st [(.a, 0x5C), (.b, 0x78)])) = (0x24, fl 0 0 0 1 0) := by decide -- V87
theorem test_xri : af (after (.xri 0x81) (st [(.a, 0x3B)] (fl 0 0 1 0 1))) = (0xBA, fl 1 0 0 0 0) := by decide -- V88
theorem test_ora_c : -- V89
    af (after .oraC (st [(.a, 0x33), (.c, 0x0F)] (fl 0 0 1 0 1))) = (0x3F, fl 0 0 0 1 0) := by decide
theorem test_cma : af (after .cma (st [(.a, 0x51)] (fl 0 1 0 0 1))) = (0xAE, fl 0 1 0 0 1) := by decide -- V92
theorem test_cmc : (after .cmc (st [] (fl 1 0 1 0 1))).flags = fl 1 0 1 0 0 := by decide -- V95
theorem test_stc : (after .stc (st [] (fl 0 0 1 0 0))).flags = fl 0 0 1 0 1 := by decide -- V96
theorem test_rlc : af (after .rlc (st [(.a, 0xF2)])) = (0xE5, fl 0 0 0 0 1) := by decide -- V100
theorem test_rrc : af (after .rrc (st [(.a, 0xF2)] (fl 0 0 0 0 1))) = (0x79, fl 0 0 0 0 0) := by decide -- V102
theorem test_ral : af (after .ral (st [(.a, 0xB5)])) = (0x6A, fl 0 0 0 0 1) := by decide -- V104
theorem test_rar : af (after .rar (st [(.a, 0x6A)] (fl 0 0 0 0 1))) = (0xB5, fl 0 0 0 0 0) := by decide -- V106
theorem test_cmp_e : af (after .cmpE (st [(.a, 0x02), (.e, 0x05)])) = (0x02, fl 1 0 1 0 1) := by decide -- V121
theorem test_cpi : af (after (.cpi 0xFF) (st [])) = (0x00, fl 0 0 1 0 1) := by decide -- V126

/-! ## Branches and the stack: whole steps, from bytes at PC -/

/-- A state with bytes at an address and PC there. -/
def code (pc : Word) (bs : List Byte) (s : State) : State := (s.setPc pc).writeBytes pc bs

theorem test_jnz_taken_when_z_clear : -- S3
    (stepped (code 0x0000 [0xC2, 0x88, 0xFF] (st []))).pc = 0xFF88 ∧
      (stepped (code 0x0000 [0xC2, 0x88, 0xFF] (st [] (fl 0 1 0 0 0)))).pc = 0x0003 := by decide
theorem test_jpo : (stepped (code 0x0000 [0xE2, 0x34, 0x12] (st []))).pc = 0x1234 := by decide -- V146
theorem test_jp_not_taken : (stepped (code 0x0000 [0xF2, 0x34, 0x12] (st [] (fl 1 0 0 0 0)))).pc = 0x0003 := by
  decide -- V148
theorem test_call_wraps_sp : -- V152
    let t := stepped (code 0x0100 [0xCD, 0x00, 0x30] ((st []).setSp 0x0001))
    t.pc = 0x3000 ∧ t.sp = 0xFFFF ∧ t.read8 0x0000 = 0x01 ∧ t.read8 0xFFFF = 0x03 ∧ t.cyc = 17 := by decide
theorem test_cnz_not_taken : -- V154
    let t := stepped (code 0x0100 [0xC4, 0x00, 0x30] ((st [] (fl 0 1 0 0 0)).setSp 0x2400))
    t.pc = 0x0103 ∧ t.sp = 0x2400 ∧ t.cyc = 11 := by decide
theorem test_rc_wraps_sp : -- V160
    let t := stepped (code 0x3000 [0xD8] ((st [] (fl 0 0 0 0 1) [(0xFFFF, 0x21), (0x0000, 0x43)]).setSp 0xFFFF))
    t.pc = 0x4321 ∧ t.sp = 0x0001 ∧ t.cyc = 11 := by decide
theorem test_rst_at_the_top_of_memory : -- V163
    let t := stepped (code 0xFFFF [0xCF] (st []))
    t.pc = 0x0008 ∧ t.sp = 0xFFFE ∧ t.mem = [] := by decide
theorem test_operands_wrap : -- V10
    (stepped ((st [] (m := [(0x0000, 0x22), (0x0001, 0x11), (0xFFFF, 0x01)])).setPc 0xFFFF)).pair .bc = 0x1122 := by
  decide
theorem test_push_psw : -- V182
    (after .pushPsw ((st [(.a, 0x1F)] (fl 0 1 0 1 1)).setSp 0x502A)).mem = [(0x5028, 0x47), (0x5029, 0x1F)] := by decide
theorem test_pop_psw_then_push_sets_constant_bits : -- V188
    (after .pushPsw (after .popPsw ((st [] (m := [(0x2C00, 0xFF), (0x2C01, 0x12)])).setSp 0x2C00))).mem =
      [(0x2C00, 0xD7), (0x2C01, 0x12)] := by decide
theorem test_push_b : -- V180
    (after .pushB ((st [(.b, 0x8F), (.c, 0x9D)]).setSp 0x3A2C)).mem = [(0x3A2A, 0x9D), (0x3A2B, 0x8F)] := by decide
theorem test_pop_h : -- V185
    (after .popH ((st [] (m := [(0x1239, 0x3D), (0x123A, 0x93)])).setSp 0x1239)).pair .hl = 0x933D := by decide

/-! ## I/O and control -/

/-- A state with an I/O bus. -/
def onBus (b : Bus) (s : State) : State := { s with bus := b }

theorem test_in_3_shifts : -- V212
    (after (.inPort 0x03) (onBus ⟨0, 0, 0xAA, 0x02, 2, 0, 0⟩ (st []))).reg .a = 0xA8 := by decide
theorem test_in_unmapped_reads_zero : -- V215
    (after (.inPort 0x81) (onBus ⟨0x15, 0, 0, 0, 0, 0, 0⟩ (st [(.a, 0x5A)]))).reg .a = 0x00 := by decide
theorem test_out_4_shifts_register : -- V251
    (after (.outPort 0x04) (onBus ⟨0, 0, 0x11, 0, 0, 0, 0⟩ (st [(.a, 0x22)]))).bus = ⟨0, 0, 0x22, 0x11, 0, 0, 0⟩ := by
  decide
theorem test_out_3_emits_rising_edges_only : -- V257
    (after (.outPort 0x03) (onBus ⟨0, 0, 0, 0, 0, 0x01, 0⟩ (st [(.a, 0x03)]))).out.events = [.sound 0x03 1] := by decide
theorem test_ei_then_nop_enables : -- V204
    let t := stepped (stepped (code 0x0000 [0xFB, 0x00] (st [])))
    t.ie = true ∧ t.iePending = false := by decide
theorem test_ei_then_di_disables : -- V205
    let t := stepped (stepped (code 0x0000 [0xFB, 0xF3] (st [])))
    t.ie = false ∧ t.iePending = false := by decide
theorem test_hlt_parks : (stepped (code 0xFFFF [0x76] (st []))).pc = 0xFFFF := by decide -- V211
theorem test_reserved_nop : (stepped (code 0x0000 [0x38] (st []))).cyc = 4 := by decide -- V202

/-! ## Interrupts and the frame driver -/

theorem test_interrupt_wraps_sp : -- V237
    let t := orElse (interrupt 1 { st [] with ie := true, sp := 0x0001, pc := 0x4000 }) (st [])
    t.mem = [(0x0000, 0x40)] ∧ t.sp = 0xFFFF ∧ t.pc = 0x0008 ∧ t.ie = false := by decide
theorem test_interrupt_keeps_pending_enable : -- V235
    (orElse (interrupt 1 { st [] with ie := true, iePending := true }) (st [])).iePending = true := by decide
theorem test_interrupt_lost_when_disabled : -- V234
    interrupt 1 { st [] with iePending := true } = .next { st [] with iePending := true } := rfl
theorem test_inputs_applied_in_order : -- V271, V274
    ([⟨.in1, 4, true⟩, ⟨.in1, 0, false⟩, ⟨.in1, 5, true⟩, ⟨.in1, 5, false⟩] : List InputEvent).foldl Bus.onInput
      ⟨0x01, 0, 0, 0, 0, 0, 0⟩ = ⟨0x10, 0, 0, 0, 0, 0, 0⟩ := by decide
/-- A state with one turn of the outside world to come. -/
def scripted (b : Boundary) (s : State) : State := { s with env := { s.env with script := [b] } }

theorem test_first_tick_selects_vector_one : -- S6
    (stepped (scripted ⟨[], true, []⟩ { st [] with ie := true, sp := 0x2400 })).pc = 0x0008 := by decide
theorem test_quit_stops_the_tick_and_the_run : -- R282
    let t := stepped (scripted ⟨[.quit], true, []⟩ { st [] with ie := true })
    t.pc = 0x0001 ∧ t.driver.nextVec = .mid ∧ step t = .refused .runEnded := ⟨by decide, by decide, rfl⟩

theorem test_reset_act_holds_the_tick : -- R275: no Tick before the first instruction after reset
    let t := stepped (scripted ⟨[.reset], true, []⟩ { st [] with ie := true, sp := 0x2400 })
    t.driver.nextVec = .mid ∧ t.pc = 0x0000 ∧ t.sp = 0x0000 := by decide
theorem test_interrupt_after_quit_is_taken : -- the model's choice, log entry 29
    let t := stepped (scripted ⟨[.quit, .interrupt 1], true, []⟩ { st [] with ie := true, sp := 0x2400 })
    t.driver.quit = true ∧ t.pc = 0x0008 ∧ t.driver.nextVec = .mid := by decide

/-! ## The host: boot, fetch words -/

theorem test_harness_boot : -- R305
    let s := harnessBoot [0xC3, 0x00, 0x00]
    s.pc = 0x0100 ∧ s.read8 0x0000 = 0xDB ∧ s.read8 0x0005 = 0xD3 ∧ s.read8 0x0007 = 0xC9 ∧ s.read8 0x0100 = 0xC3 := by
  decide
theorem test_cabinet_boot : (cabinetBoot [0x00, 0xC3]).mem = [(0x0001, 0xC3)] := by decide -- R303
theorem test_fetch_word_runs : (stepped (State.reset.withFetchWord 24 0x1234CD)).pc = 0x1234 := by decide
theorem test_reset_memory_wf : State.reset.mem.wf = true := by decide

/-! ## Witnesses: for each statement with hypotheses, a state and operands that meet them, clause by clause -/

/-- A state with bytes in memory, the stack at 0x2400, HL in video RAM and every flag set. -/
def full : State :=
  { st [(.a, 0x12), (.b, 0x20), (.h, 0x24), (.l, 0x01)] (fl 1 1 1 1 1) [(0x0000, 0xFB), (0x23FF, 0x1A)] with sp := 0x2400 }

/-- The same state with every flag clear. -/
def clear : State := full.setFlags (fl 0 0 0 0 0)

/-- A state with listeners installed. -/
def heard (a : Attachment) (rs : List (Reg × Byte)) (m : List (Word × Byte)) : State := attach a a (st rs (m := m))

theorem witness_DecodeOfEncodeIsTheInstruction : Instr.wellFormed (.jmp 0xFFFF) = true := rfl
theorem witness_EncodeOfDecodeIsTheBytes : decode [0xC3, 0xFF, 0xFF, 0x00] = .ok (.jmp 0xFFFF, [0x00]) := rfl
theorem witness_EveryOpcodeByteDecodesAndTellsTheLength_error : decode [0xC3, 0xFF] = .error .missingOperand := rfl
theorem witness_StepRunsTheInstructionAtPc :
    full.driver.quit = false ∧ Instr.wellFormed .ei = true ∧
      decode [full.read8 full.pc, full.read8 (full.pc + 1), full.read8 (full.pc + 2)] = .ok (.ei, [0x00, 0x00]) :=
  ⟨rfl, rfl, rfl⟩
theorem witness_QuietTurnOnlyAddsToTheBudget :
    full.env.input = .cabinetBus ∧ full.env.output = .cabinetBus ∧ full.env.schedule = .scripted ∧
      full.env.script = [] := ⟨rfl, rfl, rfl, rfl⟩
theorem witness_StepGoesOnExactlyWhenReady : Ready full ∧ ¬Ready (scripted ⟨[.interrupt 8], false, []⟩ full) :=
  ⟨⟨rfl, rfl⟩, fun h => absurd h.2 (by decide)⟩
theorem witness_EveryStepKeepsTheInvariant : StateInv full ∧ step full = .next (stepped full) :=
  ⟨⟨by decide, fun e h => by cases h⟩, rfl⟩
theorem witness_MovAndMviStoreAtHl : full.mem.wf = true := by decide
theorem witness_StaAndShldStoreDirect : full.mem.wf = true := by decide
theorem witness_LdaxAndStaxUseBcOrDe : full.mem.wf = true := by decide
theorem witness_XthlSwapsHlWithTopOfStack : full.mem.wf = true := by decide
theorem witness_InrAndDcrStepTheOperand : full.mem.wf = true := by decide
theorem witness_CallPushesReturnAddress : full.mem.wf = true ∧
    ((.callAliasFD 0x3000 : Instr) = .call 0x3000 ∨ (.callAliasFD 0x3000 : Instr) = .callAliasDD 0x3000 ∨
      (.callAliasFD 0x3000 : Instr) = .callAliasED 0x3000 ∨ (.callAliasFD 0x3000 : Instr) = .callAliasFD 0x3000) :=
  ⟨by decide, .inr (.inr (.inr rfl))⟩
theorem witness_JumpsWritePcOnly :
    condTrue full.flags .m ∧ ¬condTrue full.flags .p ∧ condTrue clear.flags .nz ∧ ¬condTrue clear.flags .z := by
  refine ⟨rfl, ?_, rfl, ?_⟩ <;> intro h <;> cases h
theorem witness_ConditionalCallTakenOrNot :
    full.mem.wf = true ∧ condTrue full.flags .pe ∧ ¬condTrue full.flags .po ∧ clear.mem.wf = true ∧
      condTrue clear.flags .nc ∧ ¬condTrue clear.flags .c := by
  refine ⟨by decide, rfl, ?_, by decide, rfl, ?_⟩ <;> intro h <;> cases h
theorem witness_ReturnsPopPc : condTrue full.flags .c ∧ ¬condTrue full.flags .nc := by
  refine ⟨rfl, ?_⟩; intro h; cases h
theorem witness_RstCallsItsVector : full.mem.wf = true := by decide
theorem witness_PushStoresBelowSp : full.mem.wf = true := by decide
/-- DAA's test of the low digit. -/
def lowDigit (s : State) : Prop := 9 < accNum s % 16 ∨ s.flags.ac = true
/-- DAA's test of the high digit. -/
def highDigit (s : State) : Prop :=
  9 < accNum s / 16 ∨ s.flags.cy = true ∨ (9 ≤ accNum s / 16 ∧ 9 < accNum s % 16)

theorem witness_DaaMeetsItsClosedForm : -- each of the four corrections
    (lowDigit (st [(.a, 0x9A)]) ∧ highDigit (st [(.a, 0x9A)])) ∧ (lowDigit (st [(.a, 0x0A)]) ∧ ¬highDigit (st [(.a, 0x0A)])) ∧
      (¬lowDigit (st [(.a, 0xA9)]) ∧ highDigit (st [(.a, 0xA9)])) ∧
      (¬lowDigit (st [(.a, 0x99)]) ∧ ¬highDigit (st [(.a, 0x99)])) := by
  unfold lowDigit highDigit
  decide
theorem witness_FlagHelpersAndStatusByte_bits : ∀ k : Nat, k ≠ 1 → k ≠ 3 → k ≠ 5 →
    (0xD7#8).getLsbD k = (0xFD#8).getLsbD k := by
  intro k h1 h3 h5
  match k with
  | 0 | 2 | 4 | 6 | 7 => rfl
  | 1 => exact absurd rfl h1
  | 3 => exact absurd rfl h3
  | 5 => exact absurd rfl h5
  | k + 8 => rw [BitVec.getLsbD_of_ge _ _ (by omega), BitVec.getLsbD_of_ge _ _ (by omega)]
theorem witness_FlagHelpersAndStatusByte_memory : full.mem.wf = true := by decide
theorem witness_ShiftRegisterPorts :
    full.bus.offset = 0 ∧ (portWrite full 0x02 0xFF).bus.offset = 7 ∧ (0 < 8 ∧ 7 < 8) := by decide
theorem witness_InReadsTheCabinetBus : full.env.input = .cabinetBus ∧ (0x01 : Byte).toNat = 1 ∧ (0x02 : Byte).toNat = 2 ∧
    (0x03 : Byte).toNat = 3 ∧ (0x00 : Byte).toNat = 0 ∧ 4 ≤ (0x04 : Byte).toNat ∧ 4 ≤ (0xFF : Byte).toNat := by decide
theorem witness_OutWritesTheCabinetBus : full.env.output = .cabinetBus ∧ (0x02 : Byte).toNat = 2 ∧
    (0x03 : Byte).toNat = 3 ∧ (0x04 : Byte).toNat = 4 ∧ (0x05 : Byte).toNat = 5 ∧ (0x01 : Byte).toNat = 1 ∧
    6 ≤ (0x06 : Byte).toNat ∧ 6 ≤ (0xFF : Byte).toNat := by decide
theorem witness_HarnessListeners_in_and_character :
    (heard .harness [(.c, 2)] []).env.input = .harness ∧ (heard .harness [(.c, 2)] []).env.output = .harness ∧
      ((heard .harness [(.c, 2)] []).reg .c).toNat = 2 := by decide
theorem witness_HarnessListeners_string : -- a '$' at once, and one after a byte
    ((heard .harness [(.c, 9)] [(0x0001, 0x24)]).reg .c).toNat = 9 ∧
      (heard .harness [(.c, 9), (.e, 1)] [(0x0001, 0x24)]).read8 (0x0001 + BitVec.ofNat 16 0) = 0x24 ∧
      (heard .harness [(.c, 9)] [(0x0001, 0x24)]).read8 (0x0000 + BitVec.ofNat 16 1) = 0x24 ∧
      (heard .harness [(.c, 9)] [(0x0001, 0x24)]).read8 (0x0000 + BitVec.ofNat 16 0) ≠ 0x24 := by decide
theorem witness_HarnessListeners_other_function :
    ((heard .harness [(.c, 3)] []).reg .c).toNat ≠ 2 ∧ ((heard .harness [(.c, 3)] []).reg .c).toNat ≠ 9 := by decide
theorem witness_HarnessListeners_no_dollar :
    ((heard .harness [(.c, 9)] []).reg .c).toNat = 9 ∧ ∀ a : Word, (heard .harness [(.c, 9)] []).read8 a ≠ 0x24 := by
  refine ⟨by decide, fun a => ?_⟩
  change (0x00 : Byte) ≠ 0x24
  decide
/-- A state with a listener other than the harness's on both instructions. -/
def other : State := heard .custom [] []
theorem witness_ListenersReachTheCpuOnly_in :
    Instr.inPort 0x00 = .inPort 0x00 ∧ other.env.input = .custom ∧
      Config.inputListener other.env.freeCount other = Config.inputListener other.env.freeCount other :=
  ⟨rfl, rfl, rfl⟩
theorem witness_ListenersReachTheCpuOnly_out :
    Instr.outPort 0xFF = .outPort 0xFF ∧ other.env.output = .custom ∧
      Config.outputListener other.env.freeCount other = Config.outputListener other.env.freeCount other :=
  ⟨rfl, rfl, rfl⟩
theorem witness_EiDiAndNops : Instr.nopReserved38 ∈ Instr.reservedNops := by decide
theorem witness_InterruptTakenLostOrRefused :
    full.mem.wf = true ∧ full.ie = false ∧ { full with ie := true }.mem.wf = true ∧ { full with ie := true }.ie = true ∧
      (1 ≤ 1 ∧ 1 ≤ 7) ∧ (1 ≤ 7 ∧ 7 ≤ 7) ∧ (0 = 0 ∨ 7 < 0) ∧ (8 = 0 ∨ 7 < 8) := by decide
theorem witness_Enable_ei : -- from reset with EI at PC, an enable not pending, and with one pending
    decode [full.read8 full.pc, full.read8 (full.pc + 1), full.read8 (full.pc + 2)] = .ok (.ei, [0x00, 0x00]) ∧
      runOne full = .next (orElse (runOne full) full) ∧ full.iePending = false := ⟨rfl, rfl, rfl⟩
theorem witness_Enable_pending :
    let s := { State.reset with iePending := true }
    decode [s.read8 s.pc, s.read8 (s.pc + 1), s.read8 (s.pc + 2)] = .ok (.nop, [0x00, 0x00]) ∧ s.iePending = true ∧
      runOne s = .next (orElse (runOne s) s) := ⟨rfl, rfl, rfl⟩
theorem witness_Enable_di :
    let s := code 0x0000 [0xF3] { State.reset with iePending := true }
    decode [s.read8 s.pc, s.read8 (s.pc + 1), s.read8 (s.pc + 2)] = .ok (.di, [0x00, 0x00]) ∧
      runOne s = .next (orElse (runOne s) s) := ⟨rfl, rfl⟩
theorem witness_TickRunsItsFiveActions :
    full.mem.wf = true ∧ full.ie = false ∧ { full with ie := true }.ie = true ∧ full.driver.nextVec = .mid := by decide
/-- The deterministic simulator's schedule, `n` cycles after the last Tick. -/
def timed (n : CycleCount) : State := { full with cyc := n, env := ⟨.cabinetBus, .cabinetBus, .simulator, [], 0⟩ }

theorem witness_TickRunsExactlyWhenDue :
    (full.env.input = .cabinetBus ∧ full.env.output = .cabinetBus ∧ full.driver.quit = false ∧
      full.env.schedule = .scripted ∧ HostAct.reset ∉ ([.quit] : List HostAct)) ∧
    HostAct.reset ∈ ([.quit, .reset] : List HostAct) ∧
    ((timed 16667).env.input = .cabinetBus ∧ (timed 16667).env.output = .cabinetBus ∧
      (timed 16667).driver.quit = false ∧ (timed 16667).env.schedule = .perCycles 16667 ∧
      16667 ≤ ((timed 16667).cyc - (timed 16667).driver.lastBoundary).toNat) ∧
    ((timed 16666).env.schedule = .perCycles 16667 ∧
      ((timed 16666).cyc - (timed 16666).driver.lastBoundary).toNat < 16667) ∧
    (endRun full).driver.quit = true ∧ (heard .harness [] []).env.input ≠ .cabinetBus ∧
    (heard .custom [] []).env.output ≠ .cabinetBus := by decide
theorem witness_InputEventsAreQueuedAndApplied :
    ((1 = 1 ∨ 1 = 2) ∧ 0 < 8) ∧ ((2 = 1 ∨ 2 = 2) ∧ 7 < 8) ∧ ¬((0 = 1 ∨ 0 = 2) ∧ 0 < 8) ∧ ¬((3 = 1 ∨ 3 = 2) ∧ 0 < 8) ∧
      ¬((1 = 1 ∨ 1 = 2) ∧ 8 < 8) := by decide
theorem witness_HostLoadsPeeksAndPokes : full.mem.wf = true := by decide
theorem witness_CyclesFollowTheTable : exec .rnz full = .next (after .rnz full) ∧ ¬condTrue full.flags .nz ∧
    exec (.cz 0x1234) full = .next (after (.cz 0x1234) full) ∧ condTrue full.flags .z :=
  ⟨rfl, (fun h => by cases h), rfl, rfl⟩
theorem witness_FlagsAreWrittenByTheTabulatedInstructionsOnly :
    NoCustomListener full ∧ exec (.inPort 0x01) full = .next (after (.inPort 0x01) full) ∧
      WritesAllButCy (Instr.dcr .m) ∧ WritesCyOnly .ral := by
  refine ⟨⟨by decide, by decide⟩, rfl, ⟨.m, .inr rfl⟩, by simp [WritesCyOnly]⟩
theorem witness_MemoryChangesOnlyWhereStored :
    full.mem.wf = true ∧ NoCustomListener full ∧ exec .pushB full = .next (after .pushB full) :=
  ⟨by decide, ⟨by decide, by decide⟩, rfl⟩
theorem witness_OnlyTheirOwnersChangeLatchesBusAndDriver :
    exec .ei (endRun full) = .next (after .ei (endRun full)) ∧ (endRun full).driver.quit = true := ⟨rfl, rfl⟩
theorem witness_PairsOfInstructionsUndoEachOther : full.mem.wf = true := by decide
theorem witness_MemoryReadsWhatWasStored : full.mem.wf = true ∧ (full.write8 0x0000 0xFB).mem.wf = true ∧
    (0xFFFF : Word) ≠ 0x0000 := by decide

end Sys2Proof.Tests
end

section
/-! The flag helpers (spec/00_scope.md R17), the packed status byte (spec/10_state.md R25, R26), and the byte's round trip
through the stack (spec/46_stack.md R222, R224). -/

namespace Sys2Proof.Machine

open Sys2Proof.Stmt

/-! ## Parity and SetZSP (R17) -/

/-- The model's count over the bit positions is the sum of the eight bits. -/
theorem popCount_eq_ones (v : Byte) : popCount v = ones v := by
  simp only [popCount, List.range, List.range.loop, List.countP_cons, List.countP_nil, ones, num]
  ac_rfl

theorem parity_iff (v : Byte) : parity v = true ↔ ones v % 2 = 0 := by
  rw [parity, popCount_eq_ones, beq_iff_eq]

theorem getLsbD_seven_iff (v : Byte) : v.getLsbD 7 = true ↔ 128 ≤ v.toNat := by
  have hmsb : v.getLsbD 7 = decide (2 ^ 7 ≤ v.toNat) := BitVec.msb_eq_getLsbD_last v ▸ BitVec.msb_eq_decide v
  rw [hmsb, decide_eq_true_eq, show 2 ^ 7 = 128 from rfl]

theorem flagsOf_zspOf (v : Byte) (ac cy : Bool) : ZspOf (flagsOf v ac cy) v := by
  refine ⟨?_, getLsbD_seven_iff v, parity_iff v⟩
  rw [flagsOf, beq_iff_eq]
  exact BitVec.toNat_eq

/-! ## The packed status byte (R25, R26) -/

/-- Each bit of the packed byte (R25). -/
theorem pswByte_getLsbD (f : Flags) (k : Nat) :
    (pswByte f).getLsbD k = [f.cy, true, f.p, false, f.ac, false, f.z, f.s].getD k false := by
  match k with
  | 0 | 1 | 2 | 3 | 4 | 5 | 6 | 7 =>
    simp only [pswByte, BitVec.getLsbD_append, BitVec.getLsbD_ofBool]
    rfl
  | k + 8 => exact BitVec.getLsbD_of_ge _ _ (by omega)

/-- Unpacking a packed byte gives the flags back (R26). -/
@[simp] theorem flagsOfPsw_pswByte (f : Flags) : flagsOfPsw (pswByte f) = f := by
  simp only [flagsOfPsw, pswByte_getLsbD]
  rfl

/-- Unpacking ignores bits 1, 3 and 5 (R26). -/
theorem flagsOfPsw_congr {b b' : Byte} (h : ∀ k : Nat, k ≠ 1 → k ≠ 3 → k ≠ 5 → b.getLsbD k = b'.getLsbD k) :
    flagsOfPsw b = flagsOfPsw b' := by
  rw [flagsOfPsw, h 7, h 6, h 4, h 2, h 0, flagsOfPsw] <;> decide

/-! ## The byte on the stack (R222, R224) -/

/-- The state `PUSH PSW` leaves (R222). -/
def pushedPsw (s : State) : State := (push16 (joinBytes (s.reg .a) (pswByte s.flags)) s).charge 11

theorem exec_pushPsw (s : State) : exec .pushPsw s = .next (pushedPsw s) := rfl

theorem pushedPsw_sp (s : State) : (pushedPsw s).sp = s.sp - 2 := rfl

/-- `PUSH PSW` leaves the packed flags at the new top of the stack (R222). -/
theorem read8_pushedPsw {s : State} (h : s.mem.wf = true) : (pushedPsw s).read8 (s.sp - 2) = pswByte s.flags := by
  have hm : (pushedPsw s).mem = (push16 (joinBytes (s.reg .a) (pswByte s.flags)) s).mem := rfl
  rw [read8_congr hm, read8_push16 h, if_pos rfl, lowByte_joinBytes]

/-- `POP PSW` unpacks the byte at SP into the flags (R224). -/
theorem exec_popPsw_flags (s : State) : ∃ t, exec .popPsw s = .next t ∧ t.flags = flagsOfPsw (s.read8 s.sp) :=
  ⟨_, rfl, rfl⟩

/-- `POP PSW` after `PUSH PSW` gives the flags back (R26). -/
theorem pushPsw_popPsw_flags {s : State} (h : s.mem.wf = true) :
    ∃ t u, exec .pushPsw s = .next t ∧ t.read8 (s.sp - 2) = pswByte s.flags ∧ exec .popPsw t = .next u ∧
      u.flags = s.flags := by
  obtain ⟨u, hpop, hflags⟩ := exec_popPsw_flags (pushedPsw s)
  rw [pushedPsw_sp, read8_pushedPsw h, flagsOfPsw_pswByte] at hflags
  exact ⟨pushedPsw s, u, exec_pushPsw s, read8_pushedPsw h, hpop, hflags⟩

/-- Settles O42: the helpers of R17, the status byte of R25 and R26 bit by bit, and its round trip through the stack. -/
theorem flagHelpersAndStatusByte : Obligations.FlagHelpersAndStatusByte := by
  refine ⟨fun v ac cy => ⟨parity_iff v, flagsOf_zspOf v ac cy, rfl, rfl⟩, rfl, rfl,
    fun s => ⟨exec_popPsw_flags s, pushPsw_popPsw_flags⟩, fun f => ?_, fun b b' => ⟨rfl, flagsOfPsw_congr⟩⟩
  have hbit := pswByte_getLsbD f
  exact ⟨hbit 7, hbit 6, hbit 5, hbit 4, hbit 3, hbit 2, hbit 1, hbit 0, flagsOfPsw_pswByte f⟩

end Sys2Proof.Machine
end

section
/-! The cabinet's shift register: what port 3 reads, and what writes of ports 2 and 4 leave (spec/60_exceptions.md R265, R267,
R268). -/

namespace Sys2Proof.Machine

open Sys2Proof.Stmt

/-- The statements' word of two bytes is the model's. -/
theorem wordOf_eq_joinBytes (hi lo : Byte) : wordOf hi lo = joinBytes hi lo := by
  rw [wordOf, ← joinBytes_toNat, BitVec.ofNat_toNat, BitVec.setWidth_eq]

/-! ## The shift result (R265) -/

theorem shiftResult_toNat (b : Bus) :
    b.shiftResult.toNat = (b.shiftH.toNat * 256 + b.shiftL.toNat) / 2 ^ (8 - b.offset.toNat) % 256 := by
  rw [Bus.shiftResult, BitVec.toNat_setWidth, BitVec.toNat_ushiftRight, Nat.shiftRight_eq_div_pow, joinBytes_toNat]

/-- The result is the slice of the register that begins at bit `8 - OFFSET`. -/
theorem shiftResult_getLsbD (b : Bus) {k : Nat} (hk : k < 8) :
    b.shiftResult.getLsbD k = (joinBytes b.shiftH b.shiftL).getLsbD (8 - b.offset.toNat + k) := by
  rw [Bus.shiftResult, BitVec.getLsbD_setWidth, BitVec.getLsbD_ushiftRight, decide_eq_true hk, Bool.true_and]

/-- The result's low OFFSET bits come from SHIFT_L, the others from SHIFT_H. -/
theorem shiftResult_eq_or (b : Bus) :
    b.shiftResult = (b.shiftH <<< b.offset.toNat) ||| (b.shiftL >>> (8 - b.offset.toNat)) := by
  have hoff : b.offset.toNat < 8 := b.offset.isLt
  refine BitVec.eq_of_getLsbD_eq fun k hk => ?_
  rw [shiftResult_getLsbD b hk, joinBytes, BitVec.getLsbD_append, BitVec.getLsbD_or, BitVec.getLsbD_shiftLeft,
    BitVec.getLsbD_ushiftRight]
  by_cases hlow : k < b.offset.toNat
  · have hL : 8 - b.offset.toNat + k < 8 := by omega
    simp [hlow, hL]
  · have hH : ¬8 - b.offset.toNat + k < 8 := by omega
    have hidx : 8 - b.offset.toNat + k - 8 = k - b.offset.toNat := by omega
    have hL : b.shiftL.getLsbD (8 - b.offset.toNat + k) = false := BitVec.getLsbD_of_ge _ _ (by omega)
    simp [hk, hlow, hH, hidx, hL]

theorem shiftResult_of_offset_zero {b : Bus} (h : b.offset = 0) : b.shiftResult = b.shiftH := by
  apply BitVec.eq_of_toNat_eq
  rw [shiftResult_toNat, h]
  change (b.shiftH.toNat * 256 + b.shiftL.toNat) / 256 % 256 = _
  omega

theorem shiftResult_of_offset_seven {b : Bus} (h : b.offset = 7) :
    b.shiftResult.toNat = b.shiftH.toNat % 2 * 128 + b.shiftL.toNat / 2 := by
  rw [shiftResult_toNat, h]
  change (b.shiftH.toNat * 256 + b.shiftL.toNat) / 2 % 256 = _
  omega

/-- The register and shift count of the rule's worked example (R265). -/
theorem shiftResult_of_workedExample {b : Bus} (hh : b.shiftH = 0xAA) (hl : b.shiftL = 0x02) (ho : b.offset = 2) :
    b.shiftResult = 0xA8 := by
  rw [Bus.shiftResult, hh, hl, ho]
  rfl

/-! ## The ports (R267, R268) -/

@[simp] theorem portRead_three (s : State) : portRead s 0x03 = s.bus.shiftResult := rfl

@[simp] theorem emit_nil (s : State) : s.emit [] = s := by
  rw [State.emit, List.append_nil]

/-- A write of port 2 loads the low three bits into OFFSET alone (R267). -/
theorem portWrite_two (s : State) (v : Byte) :
    portWrite s 0x02 v = { s with bus := { s.bus with offset := BitVec.ofNat 3 (v.toNat % 8) } } := by
  have hbits : v.extractLsb' 0 3 = BitVec.ofNat 3 (v.toNat % 8) := by
    apply BitVec.eq_of_toNat_eq
    simp
  rw [← hbits]
  exact emit_nil _

/-- A write of port 4 moves SHIFT_H to SHIFT_L and loads SHIFT_H (R268). -/
theorem portWrite_four (s : State) (v : Byte) :
    portWrite s 0x04 v = { s with bus := { s.bus with shiftL := s.bus.shiftH, shiftH := v } } :=
  emit_nil _

/-- The worked example: OUT 4 with 0x02, OUT 4 with 0xAA and OUT 2 with 0x02 make port 3 read 0xA8 (R265). -/
theorem portRead_three_example (s : State) :
    portRead (portWrite (portWrite (portWrite s 0x04 0x02) 0x04 0xAA) 0x02 0x02) 0x03 = 0xA8 := by
  rw [portRead_three, portWrite_two, portWrite_four, portWrite_four]
  exact shiftResult_of_workedExample rfl rfl rfl

/-- Settles O5: port 3's shift result in each form of R265, and the writes of ports 2 and 4 (R267, R268). -/
theorem shiftRegisterPortsFollowTheirRules : Obligations.ShiftRegisterPortsFollowTheirRules := by
  intro s v x y
  simp only [portRead_three, wordOf_eq_joinBytes]
  exact ⟨⟨shiftResult_toNat s.bus, shiftResult_eq_or s.bus, fun _ => shiftResult_getLsbD s.bus,
    shiftResult_of_offset_zero, shiftResult_of_offset_seven⟩, portWrite_two s v, portWrite_four s v, ⟨rfl, rfl⟩,
    portRead_three_example s⟩

end Sys2Proof.Machine
end

section
/-! Decoding and encoding (spec/30_encoding.md R70 to R80): what the opcode map says of each opcode byte, and the two round
trips. -/

namespace Sys2Proof

open Sys2Proof.Machine

/-! ## The two bytes of a 16-bit operand (R74) -/

theorem immLow_eq_lowByte (w : Word) : immLow w = lowByte w := by
  apply BitVec.eq_of_toNat_eq
  rw [lowByte_toNat, immLow, BitVec.toNat_setWidth]

theorem immHigh_eq_highByte (w : Word) : immHigh w = highByte w := by
  have := w.isLt
  apply BitVec.eq_of_toNat_eq
  rw [highByte_toNat, immHigh, BitVec.toNat_setWidth, BitVec.toNat_ushiftRight, Nat.shiftRight_eq_div_pow]
  omega

theorem imm16_bytes (w : Word) : imm16 (immLow w) (immHigh w) = w := by
  rw [immLow_eq_lowByte, immHigh_eq_highByte]
  exact joinBytes_bytes w

theorem immLow_imm16 (lo hi : Byte) : immLow (imm16 lo hi) = lo := by
  rw [immLow_eq_lowByte]
  exact lowByte_joinBytes hi lo

theorem immHigh_imm16 (lo hi : Byte) : immHigh (imm16 lo hi) = hi := by
  rw [immHigh_eq_highByte]
  exact highByte_joinBytes hi lo

/-! ## What the opcode map selects (R76) -/

/-- The format builds the instruction, from some operand. -/
def Form.Builds (f : Form) (i : Instr) : Prop :=
  match f with
  | .f1 j => i = j
  | .f2 mk => ∃ v, i = mk v
  | .f3 mk => ∃ w, i = mk w

/-- Every instruction the format builds is encoded as the byte `op` with its operand's bytes after it (R71). -/
def Form.EncodedWith (f : Form) (op : Byte) : Prop :=
  match f with
  | .f1 i => encode i = [op]
  | .f2 mk => ∀ v, encode (mk v) = [op, v]
  | .f3 mk => ∀ w, encode (mk w) = [op, immLow w, immHigh w]

/-- The opcode map holds every instruction's format at its opcode byte. -/
theorem formOf_opcode (i : Instr) : (formOf i.opcode).Builds i ∧ (formOf i.opcode).EncodedWith i.opcode := by
  cases i with
  | mviB v | mviC v | mviD v | mviE v | mviH v | mviL v | mviA v | mviM v | adi v | aci v | sui v | sbi v | ani v | xri v
  | ori v | cpi v | inPort v | outPort v => exact ⟨⟨v, rfl⟩, fun _ => rfl⟩
  | lxiB w | lxiD w | lxiH w | lxiSp w | lda w | sta w | lhld w | shld w | jmp w | jmpAliasCB w | jnz w | jz w | jnc w
  | jc w | jpo w | jpe w | jp w | jm w | call w | callAliasDD w | callAliasED w | callAliasFD w | cnz w | cz w | cnc w
  | cc w | cpo w | cpe w | cp w | cm w => exact ⟨⟨w, rfl⟩, fun _ => rfl⟩
  | _ => exact ⟨rfl, rfl⟩

/-- The instruction a format builds from a zero operand. -/
def Form.sample : Form → Instr
  | .f1 i => i
  | .f2 mk => mk 0
  | .f3 mk => mk 0

/-- No opcode byte is illegal: each one is the opcode of an instruction (R79). -/
theorem opcode_sample_formOf : ∀ op : Byte, (formOf op).sample.opcode = op := by decide

/-- What the opcode map holds at a byte is encoded with that byte. -/
theorem formOf_encodedWith (op : Byte) : (formOf op).EncodedWith op := by
  have h := (formOf_opcode (formOf op).sample).2
  rwa [opcode_sample_formOf] at h

/-! ## The decoder, by the format the opcode byte selects (R71) -/

theorem decode_f1 {op : Byte} {i : Instr} (h : formOf op = .f1 i) (rest : List Byte) :
    decode (op :: rest) = .ok (i, rest) := by
  simp [decode, h]

theorem decode_f2 {op : Byte} {mk : Byte → Instr} (h : formOf op = .f2 mk) (v : Byte) (rest : List Byte) :
    decode (op :: v :: rest) = .ok (mk v, rest) := by
  simp [decode, h]

theorem decode_f3 {op : Byte} {mk : Word → Instr} (h : formOf op = .f3 mk) (lo hi : Byte) (rest : List Byte) :
    decode (op :: lo :: hi :: rest) = .ok (mk (imm16 lo hi), rest) := by
  simp [decode, h]

/-- Two bytes after the opcode byte are enough for any format. -/
theorem decode_three (op b1 b2 : Byte) (rest : List Byte) : ∃ i r, decode (op :: b1 :: b2 :: rest) = .ok (i, r) := by
  cases h : formOf op with
  | f1 i => exact ⟨_, _, decode_f1 h _⟩
  | f2 mk => exact ⟨_, _, decode_f2 h _ _⟩
  | f3 mk => exact ⟨_, _, decode_f3 h _ _ _⟩

/-! ## The round trips -/

/-- Settles O2: the format at the instruction's opcode byte builds it back from its operand bytes. -/
theorem decodeOfEncodeIsTheInstruction : Obligations.DecodeOfEncodeIsTheInstruction := by
  intro i rest _
  obtain ⟨hbuilds, henc⟩ := formOf_opcode i
  cases hform : formOf i.opcode with rw [hform] at hbuilds henc
  | f1 j =>
    obtain rfl := hbuilds
    rw [henc]
    exact decode_f1 hform rest
  | f2 mk =>
    obtain ⟨v, rfl⟩ := hbuilds
    rw [henc v]
    exact decode_f2 hform v rest
  | f3 mk =>
    obtain ⟨w, rfl⟩ := hbuilds
    rw [henc w]
    refine (decode_f3 hform _ _ rest).trans ?_
    rw [imm16_bytes]

/-- What is decoded is encoded as the bytes it was read from, whatever format the opcode byte selects (R70, R80). -/
theorem encode_of_decode {bytes : List Byte} {i : Instr} {rest : List Byte} (h : decode bytes = .ok (i, rest)) :
    bytes = encode i ++ rest := by
  cases bytes with
  | nil => cases h
  | cons op tail =>
    have henc := formOf_encodedWith op
    cases hform : formOf op with rw [hform] at henc
    | f1 j =>
      obtain ⟨rfl, rfl⟩ := by simpa using (decode_f1 hform tail).symm.trans h
      rw [henc, List.singleton_append]
    | f2 mk =>
      match tail with
      | [] => simp [decode, hform] at h
      | v :: tail =>
        obtain ⟨rfl, rfl⟩ := by simpa using (decode_f2 hform v tail).symm.trans h
        rw [henc v, List.cons_append, List.singleton_append]
    | f3 mk =>
      match tail with
      | [] | [_] => simp [decode, hform] at h
      | lo :: hi :: tail =>
        obtain ⟨rfl, rfl⟩ := by simpa using (decode_f3 hform lo hi tail).symm.trans h
        rw [henc (imm16 lo hi), immLow_imm16, immHigh_imm16, List.cons_append, List.cons_append, List.singleton_append]

/-- Settles O3: whatever format the opcode byte selects, the bytes it reads are the instruction's encoding. -/
theorem encodeOfDecodeIsTheBytes : Obligations.EncodeOfDecodeIsTheBytes := fun _ _ _ => encode_of_decode

/-! ## Lengths (R70) -/

/-- The number of bytes of a format (R71). -/
def Form.length : Form → Nat
  | .f1 _ => 1
  | .f2 _ => 2
  | .f3 _ => 3

theorem length_eq_formOf (i : Instr) : i.length = (formOf i.opcode).length := by
  obtain ⟨hbuilds, henc⟩ := formOf_opcode i
  unfold Instr.length
  cases hform : formOf i.opcode with rw [hform] at hbuilds henc
  | f1 j =>
    obtain rfl := hbuilds
    rw [henc]
    rfl
  | f2 mk =>
    obtain ⟨v, rfl⟩ := hbuilds
    rw [henc v]
    rfl
  | f3 mk =>
    obtain ⟨w, rfl⟩ := hbuilds
    rw [henc w]
    rfl

/-- The 18 two-byte opcodes and the 30 three-byte opcodes of the map (R76). -/
theorem formOf_length : ∀ op : Byte, (formOf op).length =
    if op ∈ ([0x06, 0x0E, 0x16, 0x1E, 0x26, 0x2E, 0x36, 0x3E, 0xC6, 0xCE, 0xD3, 0xD6, 0xDB, 0xDE, 0xE6, 0xEE, 0xF6, 0xFE] :
      List Byte) then 2
    else if op ∈ ([0x01, 0x11, 0x21, 0x22, 0x2A, 0x31, 0x32, 0x3A, 0xC2, 0xC3, 0xC4, 0xCA, 0xCB, 0xCC, 0xCD, 0xD2, 0xD4,
      0xDA, 0xDC, 0xDD, 0xE2, 0xE4, 0xEA, 0xEC, 0xED, 0xF2, 0xF4, 0xFA, 0xFC, 0xFD] : List Byte) then 3
    else 1 := by decide

/-- Settles O4: three bytes are enough for every opcode byte, and the opcode map alone tells the length. -/
theorem everyOpcodeByteDecodesAndTellsTheLength : Obligations.EveryOpcodeByteDecodesAndTellsTheLength := by
  refine ⟨fun op b1 b2 => ?_, fun bytes e herr => ?_, fun i => ?_⟩
  · obtain ⟨i, rest, hdec⟩ := decode_three op b1 b2 []
    exact ⟨i, rest, hdec, (List.cons.inj (encode_of_decode hdec)).1.symm⟩
  · match bytes with
    | [] | [_] | [_, _] => simp
    | op :: b1 :: b2 :: tail =>
      obtain ⟨i, rest, hdec⟩ := decode_three op b1 b2 tail
      exact nomatch hdec.symm.trans herr
  · rw [length_eq_formOf]
    exact formOf_length i.opcode

/-- Settles O1: each word's opcode byte selects the instruction's format in the opcode map. -/
theorem decodesWordsOfTheOpcodeMap : Obligations.DecodesWordsOfTheOpcodeMap :=
  ⟨rfl, rfl, rfl, rfl, rfl, rfl, rfl, rfl, rfl, rfl, rfl, rfl, rfl⟩

end Sys2Proof
end

section
/-! The statements' operands and frames (R10 to R18, R20 to R41) in the model's own operations. -/

namespace Sys2Proof.Machine

open Sys2Proof.Stmt

/-! ## Operands -/

@[simp] theorem lo8_eq_lowByte (w : Word) : lo8 w = lowByte w := by
  rw [lo8, ← lowByte_toNat, BitVec.ofNat_toNat, BitVec.setWidth_eq]

@[simp] theorem hi8_eq_highByte (w : Word) : hi8 w = highByte w := by
  rw [hi8, ← highByte_toNat, BitVec.ofNat_toNat, BitVec.setWidth_eq]

@[simp] theorem pairValue_eq_pair (s : State) (p : Pair) : pairValue s p = s.pair p := by
  cases p <;> exact wordOf_eq_joinBytes _ _

@[simp] theorem rpValue_eq_readRP (s : State) (p : RP) : rpValue s p = readRP s p := by
  cases p with
  | pair p => exact pairValue_eq_pair s p
  | sp => rfl

@[simp] theorem addrValue_eq_addrOf (s : State) (p : AddrPair) : addrValue s p = addrOf s p := by
  cases p with
  | bc => exact pairValue_eq_pair s .bc
  | de => exact pairValue_eq_pair s .de

@[simp] theorem r8Value_eq_readR8 (s : State) (x : R8) : r8Value s x = readR8 s x := by
  cases x with
  | reg r => rfl
  | m => exact congrArg s.read8 (pairValue_eq_pair s .hl)

@[simp] theorem topOfStack_eq_read16 (s : State) : topOfStack s = s.read16 s.sp := wordOf_eq_joinBytes _ _

@[simp] theorem condTrue_iff (f : Flags) (k : Cond) : condTrue f k ↔ condHolds f k = true := by
  cases k <;> simp [condTrue, condHolds]

theorem cyclesFor_eq_ite (x : R8) (register memory : Nat) :
    cyclesFor x register memory = if x = .m then memory else register := by
  cases x <;> rfl

/-! ## Frames -/

theorem regsKept_of_regs {s t : State} (h : t.regs = s.regs) (except : List Reg) : RegsKept s t except :=
  fun r _ => reg_congr h r

/-- A state with one register written keeps the others. -/
theorem regsKept_of_set {s t : State} {x : Reg} {v : Byte} (h : t.regs = s.regs.set v x) : RegsKept s t [x] := by
  intro r hr
  rw [List.mem_singleton] at hr
  rw [State.reg, h, Regs.get_set, if_neg hr, State.reg]

theorem memKept_of_mem {s t : State} (h : t.mem = s.mem) (stored : List Word) : MemKept s t stored :=
  fun a _ => read8_congr h a

theorem systemKept_refl (s : State) : SystemKept s s := ⟨rfl, rfl, rfl, rfl, rfl, rfl⟩

/-! ## Stores -/

/-- Stores in order. -/
def State.storeAll (s : State) (vs : List (Word × Byte)) : State := vs.foldl (fun s v => s.write8 v.1 v.2) s

theorem storeAll_cons (s : State) (v : Word × Byte) (vs : List (Word × Byte)) :
    s.storeAll (v :: vs) = (s.write8 v.1 v.2).storeAll vs := rfl

theorem storeAll_wf {s : State} (h : s.mem.wf = true) (vs : List (Word × Byte)) : (s.storeAll vs).mem.wf = true := by
  induction vs generalizing s with
  | nil => exact h
  | cons v vs ih => exact ih (write8_wf h v.1 v.2)

/-- Stores leave every byte at another address. -/
theorem memKept_storeAll {s : State} (h : s.mem.wf = true) (vs : List (Word × Byte)) :
    MemKept s (s.storeAll vs) (vs.map Prod.fst) := by
  induction vs generalizing s with
  | nil => exact fun _ _ => rfl
  | cons v vs ih =>
    intro a ha
    rw [List.map_cons, List.mem_cons, not_or] at ha
    rw [storeAll_cons, ih (write8_wf h v.1 v.2) a ha.2, read8_write8 h, if_neg ha.1]

end Sys2Proof.Machine
end

section
/-! What every instruction does and leaves alone, said once over all 256: its one next state, the latches, bus and driver, the
bytes it stores, the flags and the cycles (R7, R27 to R29, R60, R84, R254, R311). -/

namespace Sys2Proof.Machine

open Sys2Proof.Stmt

/-! ## The next state (R7, R250) -/

/-- The state an instruction leaves: `exec` always answers one. -/
def State.after (s : State) (i : Instr) : State :=
  match exec i s with
  | .next t => t
  | .fault _ => s
  | .refused _ => s

theorem exec_eq_after (i : Instr) (s : State) : exec i s = .next (s.after i) := by
  cases i <;> rfl

theorem after_of_exec {i : Instr} {s t : State} (h : exec i s = .next t) : s.after i = t := by
  rw [State.after, h]

/-- Settles O8: no arm of `exec` faults or refuses. -/
theorem everyInstructionAnswersANextState : Obligations.EveryInstructionAnswersANextState :=
  fun i s => ⟨s.after i, exec_eq_after i s⟩

/-! ## Conditional jumps, calls and returns -/

theorem jumpWhen_eq (k : Cond) (w : Word) (s : State) :
    jumpWhen k w s = { s with pc := if condHolds s.flags k then w else s.pc, cyc := s.cyc + 10 } := by
  unfold jumpWhen
  split <;> rfl

/-- What a conditional call can do: the call in 17 cycles, or nothing in 11 (R194). -/
theorem callWhen_cases (k : Cond) (w : Word) (s : State) :
    (condHolds s.flags k = true ∧ callWhen k w s = (callTo w s).charge 17) ∨
      (condHolds s.flags k = false ∧ callWhen k w s = s.charge 11) := by
  unfold callWhen
  cases condHolds s.flags k <;> simp

/-- What a conditional return can do: the return in 11 cycles, or nothing in 5 (R196). -/
theorem returnWhen_cases (k : Cond) (s : State) :
    (condHolds s.flags k = true ∧ returnWhen k s = (returnFromCall s).charge 11) ∨
      (condHolds s.flags k = false ∧ returnWhen k s = s.charge 5) := by
  unfold returnWhen
  cases condHolds s.flags k <;> simp

theorem jumpWhen_system (k : Cond) (w : Word) (s : State) : SystemKept s (jumpWhen k w s) := by
  rw [jumpWhen_eq]
  exact systemKept_refl s

theorem callWhen_system (k : Cond) (w : Word) (s : State) : SystemKept s (callWhen k w s) := by
  obtain ⟨-, h⟩ | ⟨-, h⟩ := callWhen_cases k w s <;> rw [h] <;> exact systemKept_refl s

theorem returnWhen_system (k : Cond) (s : State) : SystemKept s (returnWhen k s) := by
  obtain ⟨-, h⟩ | ⟨-, h⟩ := returnWhen_cases k s <;> rw [h] <;> exact systemKept_refl s

/-! ## Listeners (R306) -/

theorem applyPokes_useFree (s : State) (ps : List Poke) : applyPokes (useFree s) ps = useFree (applyPokes s ps) := by
  induction ps generalizing s with
  | nil => rfl
  | cons p ps ih =>
    have hpoke : applyPoke (useFree s) p = useFree (applyPoke s p) := by cases p <;> rfl
    rw [applyPokes, List.foldl_cons, hpoke]
    exact ih (applyPoke s p)

/-- A listener's answer: its pokes, one free value used, and QUIT set where it ends the run. -/
theorem applyListener_eq (r : ListenerResult) (s : State) :
    applyListener r s =
      { applyPokes s r.pokes with
          driver := { s.driver with quit := s.driver.quit || r.terminates }
          env := { s.env with freeCount := s.env.freeCount + 1 } } := by
  obtain ⟨-, -, -, -, hdriver, -, henv⟩ := applyPokes_frame s r.pokes
  rw [applyListener, applyPokes_useFree]
  cases r.terminates <;> simp [endRun, useFree, hdriver, henv]

/-! ## IN and OUT -/

theorem Bus.write_in1 (b : Bus) (p v : Byte) : (b.write p v).in1 = b.in1 := by
  unfold Bus.write
  repeat' split
  all_goals rfl

theorem Bus.write_in2 (b : Bus) (p v : Byte) : (b.write p v).in2 = b.in2 := by
  unfold Bus.write
  repeat' split
  all_goals rfl

/-- What no instruction but DI and EI changes: both interrupt latches, the input latches, the driver but for QUIT, which is not
cleared, and the script. -/
structure IoKept (s t : State) : Prop where
  ie : t.ie = s.ie
  iePending : t.iePending = s.iePending
  in1 : t.bus.in1 = s.bus.in1
  in2 : t.bus.in2 = s.bus.in2
  nextVec : t.driver.nextVec = s.driver.nextVec
  inq : t.driver.inq = s.driver.inq
  budget : t.driver.budget = s.driver.budget
  lastBoundary : t.driver.lastBoundary = s.driver.lastBoundary
  quit : s.driver.quit = true → t.driver.quit = true
  script : t.env.script = s.env.script

theorem applyListener_ioKept (r : ListenerResult) (s : State) : IoKept s (applyListener r s) := by
  obtain ⟨hie, hpending, -, hbus, -, -, -⟩ := applyPokes_frame s r.pokes
  rw [applyListener_eq]
  constructor <;> simp +contextual [hie, hpending, hbus]

theorem input_ioKept (p : Byte) (s : State) : IoKept s (input p s) := by
  unfold input
  split
  · constructor <;> simp
  · constructor <;> simp
  · exact applyListener_ioKept _ s

theorem output_ioKept (p : Byte) (s : State) : IoKept s (output p s) := by
  unfold output
  split
  · exact ⟨rfl, rfl, Bus.write_in1 s.bus p _, Bus.write_in2 s.bus p _, rfl, rfl, rfl, rfl, id, rfl⟩
  · obtain ⟨bs, n, h⟩ := harnessOutput_cases s
    rw [h]
    exact ⟨rfl, rfl, rfl, rfl, rfl, rfl, rfl, rfl, id, rfl⟩
  · exact applyListener_ioKept _ s

theorem input_cyc (p : Byte) (s : State) : (input p s).cyc = s.cyc := by
  unfold input
  split
  · rfl
  · rfl
  · obtain ⟨-, -, hcyc, -, -⟩ := applyListener_frame (Config.inputListener s.env.freeCount s) s
    exact hcyc

theorem output_cyc (p : Byte) (s : State) : (output p s).cyc = s.cyc := by
  unfold output
  split
  · rfl
  · obtain ⟨bs, n, h⟩ := harnessOutput_cases s
    rw [h]
  · obtain ⟨-, -, hcyc, -, -⟩ := applyListener_frame (Config.outputListener s.env.freeCount s) s
    exact hcyc

/-- IN leaves the bus and the output. -/
theorem input_bus_out (p : Byte) (s : State) : (input p s).bus = s.bus ∧ (input p s).out = s.out := by
  unfold input
  split
  · exact ⟨rfl, rfl⟩
  · exact ⟨rfl, rfl⟩
  · obtain ⟨-, -, -, hbus, hout⟩ := applyListener_frame (Config.inputListener s.env.freeCount s) s
    exact ⟨hbus, hout⟩

/-! ## Latches, bus, driver, output and environment (R28, R29, R39, R40, R254, R311) -/

/-- Every instruction but DI, EI, IN and OUT leaves the whole system alone. -/
theorem after_system {i : Instr} (s : State) (hdi : i ≠ .di) (hei : i ≠ .ei) (hin : ∀ p, i ≠ .inPort p)
    (hout : ∀ p, i ≠ .outPort p) : SystemKept s (s.after i) := by
  cases i with
  | di => exact absurd rfl hdi
  | ei => exact absurd rfl hei
  | inPort p => exact absurd rfl (hin p)
  | outPort p => exact absurd rfl (hout p)
  | jnz w | jz w | jnc w | jc w | jpo w | jpe w | jp w | jm w => exact jumpWhen_system _ w s
  | cnz w | cz w | cnc w | cc w | cpo w | cpe w | cp w | cm w => exact callWhen_system _ w s
  | rnz | rz | rnc | rc | rpo | rpe | rp | rm => exact returnWhen_system _ s
  | _ => exact ⟨rfl, rfl, rfl, rfl, rfl, rfl⟩

theorem ioKept_of_systemKept {s t : State} (h : SystemKept s t) : IoKept s t := by
  obtain ⟨hie, hpending, hbus, hdriver, -, henv⟩ := h
  constructor <;> simp [hie, hpending, hbus, hdriver, henv]

/-- What no instruction changes but DI and EI, and each of those one latch alone (R28, R29). -/
theorem after_ioKept {i : Instr} (s : State) (hdi : i ≠ .di) (hei : i ≠ .ei) : IoKept s (s.after i) := by
  by_cases hin : ∃ p, i = .inPort p
  · obtain ⟨p, rfl⟩ := hin
    exact { input_ioKept p s with }
  by_cases hout : ∃ p, i = .outPort p
  · obtain ⟨p, rfl⟩ := hout
    exact { output_ioKept p s with }
  exact ioKept_of_systemKept (after_system s hdi hei (not_exists.mp hin) (not_exists.mp hout))

theorem after_di (s : State) : s.after .di = { s with ie := false }.charge 4 := rfl

theorem after_ei (s : State) : s.after .ei = { s with iePending := true }.charge 4 := rfl

/-- Settles O58: DI and EI write their own latch, IN and OUT keep what `IoKept` lists, all others keep the whole system. -/
theorem onlyTheirOwnersChangeLatchesBusAndDriver : Obligations.OnlyTheirOwnersChangeLatchesBusAndDriver := by
  intro i s t h
  obtain rfl := after_of_exec h
  by_cases hdi : i = .di
  · subst hdi
    exact ⟨fun h => absurd rfl h, fun _ => rfl, rfl, rfl, rfl, rfl, rfl, rfl, fun _ => ⟨rfl, rfl⟩, fun _ => ⟨rfl, rfl⟩, id⟩
  by_cases hei : i = .ei
  · subst hei
    exact ⟨fun _ => rfl, fun h => absurd rfl h, rfl, rfl, rfl, rfl, rfl, rfl, fun _ => ⟨rfl, rfl⟩, fun _ => ⟨rfl, rfl⟩, id⟩
  have hio := after_ioKept s hdi hei
  refine ⟨fun _ => hio.ie, fun _ => hio.iePending, hio.in1, hio.in2, hio.nextVec, hio.inq, hio.budget, hio.lastBoundary,
    fun hout => ?_, fun hinout => ?_, hio.quit⟩
  · by_cases hin : ∃ p, i = .inPort p
    · obtain ⟨p, rfl⟩ := hin
      exact input_bus_out p s
    · obtain ⟨-, -, hbus, -, hout', -⟩ := after_system s hdi hei (not_exists.mp hin) hout
      exact ⟨hbus, hout'⟩
  · obtain ⟨-, -, -, hdriver, -, henv⟩ :=
      after_system s hdi hei (fun p => (hinout p).2) (fun p => (hinout p).1)
    exact ⟨hdriver, henv⟩

/-! ## Stores (R60) -/

theorem jumpWhen_mem (k : Cond) (w : Word) (s : State) : (jumpWhen k w s).mem = s.mem := by rw [jumpWhen_eq]

theorem returnWhen_mem (k : Cond) (s : State) : (returnWhen k s).mem = s.mem := by
  obtain ⟨-, h⟩ | ⟨-, h⟩ := returnWhen_cases k s <;> rw [h] <;> rfl

/-- The stores of a push, in order (R18). -/
def pushStores (s : State) (v : Word) : List (Word × Byte) := [(s.sp - 1, highByte v), (s.sp - 2, lowByte v)]

theorem callWhen_mem (k : Cond) (w : Word) (s : State) :
    (callWhen k w s).mem = (s.storeAll (if condHolds s.flags k then pushStores s s.pc else [])).mem := by
  obtain ⟨hk, h⟩ | ⟨hk, h⟩ := callWhen_cases k w s <;> rw [h, hk] <;> rfl

theorem input_mem {s : State} (h : s.env.input ≠ .custom) (p : Byte) : (input p s).mem = s.mem := by
  unfold input
  split
  · rfl
  · rfl
  · exact absurd ‹_› h

theorem output_mem {s : State} (h : s.env.output ≠ .custom) (p : Byte) : (output p s).mem = s.mem := by
  unfold output
  split
  · rfl
  · obtain ⟨bs, n, h⟩ := harnessOutput_cases s
    rw [h]
  · exact absurd ‹_› h

/-- An instruction that no custom listener answers stores at the addresses R60 gives it, one byte at each. -/
theorem after_stores {i : Instr} {s : State} (hin : ∀ p, i = .inPort p → s.env.input ≠ .custom)
    (hout : ∀ p, i = .outPort p → s.env.output ≠ .custom) :
    ∃ vs, (s.after i).mem = (s.storeAll vs).mem ∧ vs.map Prod.fst = storedAt s i := by
  cases i with
  | movMB | movMC | movMD | movME | movMH | movML | movMA | mviM _ | inrM | dcrM =>
    exact ⟨[(s.hl, _)], rfl, congrArg ([·]) (pairValue_eq_pair s .hl).symm⟩
  | staxB => exact ⟨[(s.pair .bc, s.reg .a)], rfl, congrArg ([·]) (pairValue_eq_pair s .bc).symm⟩
  | staxD => exact ⟨[(s.pair .de, s.reg .a)], rfl, congrArg ([·]) (pairValue_eq_pair s .de).symm⟩
  | sta w => exact ⟨[(w, s.reg .a)], rfl, rfl⟩
  | shld w => exact ⟨[(w, lowByte s.hl), (w + 1, highByte s.hl)], rfl, rfl⟩
  | xthl => exact ⟨[(s.sp, lowByte s.hl), (s.sp + 1, highByte s.hl)], rfl, rfl⟩
  | pushB | pushD | pushH | pushPsw | call _ | callAliasDD _ | callAliasED _ | callAliasFD _ | rst0 | rst1 | rst2 | rst3
  | rst4 | rst5 | rst6 | rst7 => exact ⟨pushStores s _, rfl, rfl⟩
  | cnz w | cz w | cnc w | cc w | cpo w | cpe w | cp w | cm w =>
    exact ⟨_, callWhen_mem _ w s, apply_ite _ _ _ _⟩
  | jnz w | jz w | jnc w | jc w | jpo w | jpe w | jp w | jm w => exact ⟨[], jumpWhen_mem _ w s, rfl⟩
  | rnz | rz | rnc | rc | rpo | rpe | rp | rm => exact ⟨[], returnWhen_mem _ s, rfl⟩
  | inPort p => exact ⟨[], input_mem (hin p rfl) p, rfl⟩
  | outPort p => exact ⟨[], output_mem (hout p rfl) p, rfl⟩
  | _ => exact ⟨[], rfl, rfl⟩

/-- Settles O57: an instruction's effect on memory is its stores, and stores leave every other byte. -/
theorem memoryChangesOnlyWhereStored : Obligations.MemoryChangesOnlyWhereStored := by
  intro i s t hwf hlisteners h
  obtain ⟨vs, hmem, haddrs⟩ := after_stores (i := i) (fun _ _ => hlisteners.1) fun _ _ => hlisteners.2
  rw [after_of_exec h] at hmem
  intro a ha
  rw [read8_congr hmem, memKept_storeAll hwf vs a (haddrs ▸ ha)]

/-! ## Flags (R27) -/

theorem writeRP_flags (s : State) (p : RP) (v : Word) : (writeRP s p v).flags = s.flags := by cases p <;> rfl

theorem jumpWhen_flags (k : Cond) (w : Word) (s : State) : (jumpWhen k w s).flags = s.flags := by rw [jumpWhen_eq]

theorem callWhen_flags (k : Cond) (w : Word) (s : State) : (callWhen k w s).flags = s.flags := by
  obtain ⟨-, h⟩ | ⟨-, h⟩ := callWhen_cases k w s <;> rw [h] <;> rfl

theorem returnWhen_flags (k : Cond) (s : State) : (returnWhen k s).flags = s.flags := by
  obtain ⟨-, h⟩ | ⟨-, h⟩ := returnWhen_cases k s <;> rw [h] <;> rfl

theorem input_flags {s : State} (h : s.env.input ≠ .custom) (p : Byte) : (input p s).flags = s.flags := by
  unfold input
  split
  · rfl
  · rfl
  · exact absurd ‹_› h

theorem output_flags {s : State} (h : s.env.output ≠ .custom) (p : Byte) : (output p s).flags = s.flags := by
  unfold output
  split
  · rfl
  · obtain ⟨bs, n, h⟩ := harnessOutput_cases s
    rw [h]
  · exact absurd ‹_› h

theorem after_flags_of_exec {i : Instr} {s t : State} (h : exec i s = .next t) (hflags : t.flags = s.flags) :
    (s.after i).flags = s.flags := by
  rw [after_of_exec h, hflags]

/-- An instruction in none of R27's rows keeps every flag. -/
theorem after_flags {i : Instr} {s : State} (h : NoCustomListener s) (hall : ¬WritesAllFlags i)
    (hbutCy : ¬WritesAllButCy i) (hcy : ¬WritesCyOnly i) : (s.after i).flags = s.flags := by
  induction i using Instr.by_family with
  | halu o x => exact absurd (.inl ⟨o, x, rfl⟩) hall
  | haluImm o v => exact absurd (.inr (.inl ⟨o, v, rfl⟩)) hall
  | hdaa | hpopPsw => exact absurd (by simp [WritesAllFlags]) hall
  | hinr x => exact absurd ⟨x, .inl rfl⟩ hbutCy
  | hdcr x => exact absurd ⟨x, .inr rfl⟩ hbutCy
  | hdad p => exact absurd (.inl ⟨p, rfl⟩) hcy
  | hrlc | hrrc | hral | hrar | hcmc | hstc => exact absurd (by simp [WritesCyOnly]) hcy
  | hmovRR dst src => exact after_flags_of_exec (exec_movRR dst src s) rfl
  | hmovRM dst => exact after_flags_of_exec (exec_movRM dst s) rfl
  | hmovMR r => exact after_flags_of_exec (exec_movMR r s) rfl
  | hmviR dst v => exact after_flags_of_exec (exec_mviR dst v s) rfl
  | hlxi p w => exact after_flags_of_exec (exec_lxi p w s) (writeRP_flags s p w)
  | hldax p => exact after_flags_of_exec (exec_ldax p s) rfl
  | hstax p => exact after_flags_of_exec (exec_stax p s) rfl
  | hinx p => exact after_flags_of_exec (exec_inx p s) (writeRP_flags s p _)
  | hdcx p => exact after_flags_of_exec (exec_dcx p s) (writeRP_flags s p _)
  | hjumps w i hi => exact after_flags_of_exec (exec_jumps hi s) rfl
  | hjumpIf k w => exact after_flags_of_exec (exec_jumpIf k w s) (jumpWhen_flags k w s)
  | hcalls w i hi => exact after_flags_of_exec (exec_calls hi s) rfl
  | hcallIf k w => exact after_flags_of_exec (exec_callIf k w s) (callWhen_flags k w s)
  | hreturns i hi => exact after_flags_of_exec (exec_returns hi s) rfl
  | hretIf k => exact after_flags_of_exec (exec_retIf k s) (returnWhen_flags k s)
  | hrst n => exact after_flags_of_exec (exec_rst n s) rfl
  | hpush p => exact after_flags_of_exec (exec_push p s) rfl
  | hpop p => exact after_flags_of_exec (exec_pop p s) rfl
  | hreservedNops i hi => exact after_flags_of_exec (exec_reservedNops hi s) rfl
  | hinPort p => exact input_flags h.1 p
  | houtPort p => exact output_flags h.2 p
  | _ => rfl

/-- Settles O56: INR and DCR take CY from the old flags, the instructions of CY alone write it with `setCy`, and an instruction
outside R27's rows writes no flag. -/
theorem flagsAreWrittenByTheTabulatedInstructionsOnly : Obligations.FlagsAreWrittenByTheTabulatedInstructionsOnly := by
  intro i s t hlisteners h
  obtain rfl := after_of_exec h
  refine ⟨?_, ?_, after_flags hlisteners⟩
  · rintro ⟨x, rfl | rfl⟩
    · rw [after_of_exec (exec_inr x s)]
      rfl
    · rw [after_of_exec (exec_dcr x s)]
      rfl
  · rintro (⟨p, rfl⟩ | rfl | rfl | rfl | rfl | rfl | rfl)
    · rw [after_of_exec (exec_dad p s)]
      exact ⟨rfl, rfl, rfl, rfl⟩
    all_goals exact ⟨rfl, rfl, rfl, rfl⟩

/-! ## Cycles (R84) -/

theorem retIf_injective : ∀ {k k' : Cond}, Instr.retIf k = .retIf k' → k = k'
  | .nz, .nz, _ | .z, .z, _ | .nc, .nc, _ | .c, .c, _ | .po, .po, _ | .pe, .pe, _ | .p, .p, _ | .m, .m, _ => rfl

theorem callIf_injective {w w' : Word} : ∀ {k k' : Cond}, Instr.callIf k w = .callIf k' w' → k = k'
  | .nz, .nz, _ | .z, .z, _ | .nc, .nc, _ | .c, .c, _ | .po, .po, _ | .pe, .pe, _ | .p, .p, _ | .m, .m, _ => rfl

theorem retIf_ne_callIf (k k' : Cond) (w : Word) : Instr.retIf k ≠ .callIf k' w := by
  cases k <;> cases k' <;> exact nofun

/-- A conditional return charges what the table gives: 11 taken, 5 not. -/
theorem returnWhen_cycles (k : Cond) (s : State) :
    ∃ n, cyclesAt (.retIf k) s.flags n ∧ Cost s (returnWhen k s) n := by
  obtain ⟨hk, h⟩ | ⟨hk, h⟩ := returnWhen_cases k s <;> rw [h]
  · refine ⟨11, ⟨fun k' e hnot => ?_, fun k' w e => absurd e (retIf_ne_callIf k k' w), fun _ _ => ?_⟩, rfl⟩
    · rw [← retIf_injective e, condTrue_iff] at hnot
      exact absurd hk hnot
    · cases k <;> rfl
  · refine ⟨5, ⟨fun _ _ _ => rfl, fun k' w e => absurd e (retIf_ne_callIf k k' w), fun hret _ => ?_⟩, rfl⟩
    have htrue := (condTrue_iff s.flags k).mp (hret k rfl)
    exact absurd (hk.symm.trans htrue) Bool.false_ne_true

/-- A conditional call charges what the table gives: 17 taken, 11 not. -/
theorem callWhen_cycles (k : Cond) (w : Word) (s : State) :
    ∃ n, cyclesAt (.callIf k w) s.flags n ∧ Cost s (callWhen k w s) n := by
  obtain ⟨hk, h⟩ | ⟨hk, h⟩ := callWhen_cases k w s <;> rw [h]
  · refine ⟨17, ⟨fun k' e => absurd e.symm (retIf_ne_callIf k' k w), fun k' w' e hnot => ?_, fun _ _ => ?_⟩, rfl⟩
    · rw [← callIf_injective e, condTrue_iff] at hnot
      exact absurd hk hnot
    · cases k <;> rfl
  · refine ⟨11, ⟨fun k' e => absurd e.symm (retIf_ne_callIf k' k w), fun _ _ _ _ => rfl, fun _ hcall => ?_⟩, rfl⟩
    have htrue := (condTrue_iff s.flags k).mp (hcall k w rfl)
    exact absurd (hk.symm.trans htrue) Bool.false_ne_true

/-- Every other instruction charges the one figure at its opcode. -/
theorem after_cost {i : Instr} (s : State) (hret : ∀ k, i ≠ .retIf k) (hcall : ∀ k w, i ≠ .callIf k w) :
    Cost s (s.after i) (cycleTable.getD i.opcode.toNat 0) := by
  cases i with
  | rnz => exact absurd rfl (hret .nz)
  | rz => exact absurd rfl (hret .z)
  | rnc => exact absurd rfl (hret .nc)
  | rc => exact absurd rfl (hret .c)
  | rpo => exact absurd rfl (hret .po)
  | rpe => exact absurd rfl (hret .pe)
  | rp => exact absurd rfl (hret .p)
  | rm => exact absurd rfl (hret .m)
  | cnz w => exact absurd rfl (hcall .nz w)
  | cz w => exact absurd rfl (hcall .z w)
  | cnc w => exact absurd rfl (hcall .nc w)
  | cc w => exact absurd rfl (hcall .c w)
  | cpo w => exact absurd rfl (hcall .po w)
  | cpe w => exact absurd rfl (hcall .pe w)
  | cp w => exact absurd rfl (hcall .p w)
  | cm w => exact absurd rfl (hcall .m w)
  | jnz w | jz w | jnc w | jc w | jpo w | jpe w | jp w | jm w => exact congrArg State.cyc (jumpWhen_eq _ w s)
  | inPort p => exact congrArg (· + 10) (input_cyc p s)
  | outPort p => exact congrArg (· + 10) (output_cyc p s)
  | _ => rfl

/-- Settles O55: the conditional returns and calls by their two figures, all others by the figure at their opcode. -/
theorem cyclesFollowTheTable : Obligations.CyclesFollowTheTable := by
  intro i s t h
  obtain rfl := after_of_exec h
  by_cases hret : ∃ k, i = .retIf k
  · obtain ⟨k, rfl⟩ := hret
    rw [after_of_exec (exec_retIf k s)]
    exact returnWhen_cycles k s
  by_cases hcall : ∃ k w, i = .callIf k w
  · obtain ⟨k, w, rfl⟩ := hcall
    rw [after_of_exec (exec_callIf k w s)]
    exact callWhen_cycles k w s
  have hret' : ∀ k, i ≠ .retIf k := not_exists.mp hret
  have hcall' : ∀ k w, i ≠ .callIf k w := fun k w e => hcall ⟨k, w, e⟩
  exact ⟨_, ⟨fun k e => absurd e (hret' k), fun k w e => absurd e (hcall' k w), fun _ _ => rfl⟩,
    after_cost s hret' hcall'⟩

end Sys2Proof.Machine
end

section
/-! One step: the fetch, one turn of the driver loop, and the invariant every step keeps (R83, R252, R253, R275 to R283). -/

namespace Sys2Proof.Machine

open Sys2Proof.Stmt

/-! ## `run_one` (R83) -/

/-- A pending enable becomes IE (R253). -/
theorem collapsePending_eq (s : State) : collapsePending s = { s with ie := s.ie || s.iePending, iePending := false } := by
  obtain ⟨_, _, _, _, ie, iePending, _⟩ := s
  cases iePending
  · simp [collapsePending]
  · simp [collapsePending]

/-- The state an instruction's meaning runs in: the pending enable collapsed, PC past the instruction. -/
def State.fetched (s : State) (i : Instr) : State :=
  { s with pc := s.pc + BitVec.ofNat 16 i.length, ie := s.ie || s.iePending, iePending := false }

theorem runOne_of_decode {s : State} {i : Instr} {rest : List Byte} (h : decode (bytesAtPc s) = .ok (i, rest)) :
    runOne s = exec i (s.fetched i) := by
  have hlen : 3 - rest.length = i.length := by
    have hbytes := congrArg List.length (encode_of_decode h)
    rw [List.length_append] at hbytes
    simp only [bytesAtPc, List.length_cons, List.length_nil] at hbytes
    unfold Instr.length
    omega
  have hcollapsed : bytesAtPc (collapsePending s) = bytesAtPc s := by
    rw [collapsePending_eq]
    rfl
  rw [runOne, fetchInstr_of_decode (hcollapsed ▸ h), hlen, collapsePending_eq]
  rfl

/-- Whatever bytes stand at PC, `run_one` runs one instruction (R79, R83). -/
theorem runOne_eq_after (s : State) : ∃ i, runOne s = .next ((s.fetched i).after i) := by
  obtain ⟨i, rest, h⟩ := decode_three (s.read8 s.pc) (s.read8 (s.pc + 1)) (s.read8 (s.pc + 2)) []
  exact ⟨i, (runOne_of_decode h).trans (exec_eq_after i _)⟩

/-- Settles O6: `run_one` fetches the decoded instruction, and the rest of `step` closes the turn. -/
theorem stepRunsTheInstructionAtPc : Obligations.StepRunsTheInstructionAtPc := by
  intro s i rest hquit _ hdec
  rw [step, hquit, runOne_of_decode hdec]
  rfl

/-- Settles O50: the fetch collapses the pending enable; only DI clears IE after it and only EI sets IE_PENDING. -/
theorem enableTakesEffectOneInstructionLate : Obligations.EnableTakesEffectOneInstructionLate := by
  intro s t i rest hdec hrun
  obtain rfl := after_of_exec ((runOne_of_decode hdec).symm.trans hrun)
  by_cases hdi : i = .di
  · subst hdi
    exact ⟨fun _ h => absurd rfl h, fun _ => rfl, fun _ h => absurd rfl h, nofun, nofun⟩
  by_cases hei : i = .ei
  · subst hei
    refine ⟨fun hpending _ => ?_, nofun, fun hpending _ => ?_, fun _ => rfl, fun _ => rfl⟩
    · exact (congrArg (s.ie || ·) hpending).trans (Bool.or_true _)
    · exact (congrArg (s.ie || ·) hpending).trans (Bool.or_false _)
  have hio := after_ioKept (s.fetched i) hdi hei
  have hie : ((s.fetched i).after i).ie = (s.ie || s.iePending) := hio.ie
  have hpending : ((s.fetched i).after i).iePending = false := hio.iePending
  rw [hie, hpending]
  refine ⟨fun h _ => ?_, fun h => absurd h hdi, fun h _ => ?_, nofun, fun h => absurd h hei⟩
  · rw [h, Bool.or_true]
  · rw [h, Bool.or_false]

/-! ## A turn of the driver loop (R275) -/

/-- No instruction reads or drops the script. -/
theorem after_script (i : Instr) (s : State) : (s.after i).env.script = s.env.script := by
  by_cases hdi : i = .di
  · rw [hdi, after_di]
    rfl
  by_cases hei : i = .ei
  · rw [hei, after_ei]
    rfl
  exact (after_ioKept s hdi hei).script

/-- Closing a turn: the acts before the Tick test, the test, the acts after it. -/
theorem closeTurn_next_iff (n : Nat) (s t : State) :
    closeTurn n s = .next t ↔
      ∃ u, applyActs (dropBoundary (addBudget n s)) (nextBoundary s).acts = .next u ∧
        applyActs (tickIfDue (nextBoundary s) u) (nextBoundary s).late = .next t := by
  unfold closeTurn
  cases h : applyActs (dropBoundary (addBudget n s)) (nextBoundary s).acts <;> simp [h]

/-- A turn closes exactly when the host boundary accepts its acts (R252, R273). -/
theorem closeTurn_goes_on_iff (n : Nat) (s : State) :
    (∃ t, closeTurn n s = .next t) ↔ (nextBoundary s).wellFormed = true := by
  simp only [closeTurn_next_iff, Boundary.wellFormed, Bool.and_eq_true]
  constructor
  · rintro ⟨t, u, hacts, hlate⟩
    exact ⟨(applyActs_next_iff _ _).mp ⟨u, hacts⟩, (applyActs_next_iff _ _).mp ⟨t, hlate⟩⟩
  · rintro ⟨hacts, hlate⟩
    obtain ⟨u, hu⟩ := (applyActs_next_iff (dropBoundary (addBudget n s)) _).mpr hacts
    obtain ⟨t, ht⟩ := (applyActs_next_iff (tickIfDue (nextBoundary s) u) _).mpr hlate
    exact ⟨t, u, hu, ht⟩

/-- What a step can do: nothing once QUIT is set; otherwise it runs one instruction and closes the turn. -/
theorem step_cases (s : State) :
    (s.driver.quit = true ∧ step s = .refused .runEnded) ∨
      (s.driver.quit = false ∧ ∃ i n, step s = closeTurn n ((s.fetched i).after i)) := by
  unfold step
  cases s.driver.quit with
  | true => exact .inl ⟨rfl, rfl⟩
  | false =>
    obtain ⟨i, hrun⟩ := runOne_eq_after s
    rw [hrun]
    exact .inr ⟨rfl, i, _, rfl⟩

/-- The outside world's acts of a turn are those that stood in the script before the instruction. -/
theorem nextBoundary_after_fetched (i : Instr) (s : State) : nextBoundary ((s.fetched i).after i) = nextBoundary s := by
  rw [nextBoundary, after_script, nextBoundary]
  rfl

/-- Settles O9: an instruction always answers, so a step goes on unless QUIT is set or an act is refused. -/
theorem stepGoesOnExactlyWhenReady : Obligations.StepGoesOnExactlyWhenReady := by
  intro s
  obtain ⟨hquit, h⟩ | ⟨hquit, i, n, h⟩ := step_cases s
  · simp [h, Ready, hquit]
  · rw [h, closeTurn_goes_on_iff, nextBoundary_after_fetched]
    simp [Ready, hquit]

/-! ## Tick (R276 to R279) -/

/-- The trace after step 2 of Tick: a snapshot of video RAM at an end-of-frame Tick (R278). -/
theorem renderIfEnd_eq (sel : FrameVec) (s : State) :
    renderIfEnd sel s = s.emit (match sel with | .mid => [] | .endOfFrame => [.render (vramBytes s.mem)]) := by
  cases sel with
  | mid => exact (emit_nil s).symm
  | endOfFrame => rfl

/-- Tick is an interrupt with the driver, the output and the bus brought up to date. -/
theorem tick_eq (s : State) :
    tick s =
      { takeInterrupt (FrameVec.number s.driver.nextVec) s with
          bus := s.driver.inq.foldl Bus.onInput s.bus
          driver :=
            { s.driver with nextVec := FrameVec.other s.driver.nextVec, inq := [], lastBoundary := s.cyc }
          out := (renderIfEnd s.driver.nextVec s).out } := by
  unfold tick takeInterrupt
  simp only [renderIfEnd_eq]
  cases hie : s.ie <;> simp [hie, State.emit, drainInputs]

/-- The statement's snapshot of video RAM: the bytes at its 7,168 addresses. -/
theorem vramBytes_eq (s : State) :
    vramBytes s.mem = (List.range 7168).map fun k => s.read8 (BitVec.ofNat 16 (0x2400 + k)) := by
  refine List.map_congr_left fun k hk => ?_
  have hlt : 0x2400 + k < 2 ^ 16 := by
    have := List.mem_range.mp hk
    simp only [vramSize] at this
    omega
  rw [State.read8, BitVec.toNat_ofNat, Nat.mod_eq_of_lt hlt, vramBase]

/-- What a push leaves below SP (R18). -/
theorem pushedWord_push16 {s t : State} (h : s.mem.wf = true) {v : Word} (hmem : t.mem = (push16 v s).mem)
    (hsp : t.sp = s.sp - 2) : PushedWord s t v := by
  have hread (a : Word) := (read8_congr hmem a).trans (read8_push16 h v a)
  have hne : s.sp - 1 ≠ s.sp - 2 := fun e => absurd ((BitVec.sub_right_inj s.sp).mp e) (by decide)
  refine ⟨?_, ?_, hsp, fun a ha => ?_⟩
  · rw [hread, if_neg hne, if_pos rfl, hi8_eq_highByte]
  · rw [hread, if_pos rfl, lo8_eq_lowByte]
  · rw [List.mem_cons, List.mem_singleton, not_or] at ha
    rw [hread, if_neg ha.2, if_neg ha.1]

/-- An interrupt, taken or lost, keeps registers, flags, IE_PENDING, CYC, bus, driver, output and environment (R252, D10). -/
theorem takeInterrupt_frame (n : Nat) (s : State) :
    (takeInterrupt n s).regs = s.regs ∧ (takeInterrupt n s).flags = s.flags ∧
      (takeInterrupt n s).iePending = s.iePending ∧ (takeInterrupt n s).cyc = s.cyc ∧
      (takeInterrupt n s).bus = s.bus ∧ (takeInterrupt n s).driver = s.driver ∧ (takeInterrupt n s).out = s.out ∧
      (takeInterrupt n s).env = s.env := by
  obtain ⟨-, h⟩ | ⟨-, h⟩ := takeInterrupt_cases n s <;> rw [h] <;> exact ⟨rfl, rfl, rfl, rfl, rfl, rfl, rfl, rfl⟩

theorem takeInterrupt_of_ie {s : State} (h : s.ie = true) (n : Nat) :
    takeInterrupt n s = { callTo (vectorAddress n) s with ie := false } := if_pos h

theorem takeInterrupt_of_not_ie {s : State} (h : s.ie = false) (n : Nat) : takeInterrupt n s = s := by
  rw [takeInterrupt, h]
  rfl

/-- Settles O51: Tick's interrupt is a call where IE is set and nothing where it is clear; the rest of Tick is its new driver,
bus and output. -/
theorem tickRunsItsFiveActions : Obligations.TickRunsItsFiveActions := by
  intro s hwf
  rw [tick_eq]
  obtain ⟨hregs, hflags, hpending, hcyc, -, -, -, henv⟩ := takeInterrupt_frame (FrameVec.number s.driver.nextVec) s
  refine ⟨?_, ?_, fun hie => ?_, fun hie => ?_, rfl, rfl, rfl, rfl, rfl, regsKept_of_regs hregs [], hflags, hpending, hcyc,
    ?_, henv⟩
  · cases s.driver.nextVec <;> rfl
  · rw [renderIfEnd_eq, vramBytes_eq]
    cases s.driver.nextVec <;> simp [State.emit]
  · rw [takeInterrupt_of_ie hie]
    refine ⟨pushedWord_push16 hwf rfl rfl, rfl, ?_⟩
    cases s.driver.nextVec <;> rfl
  · rw [takeInterrupt_of_not_ie hie]
    exact ⟨rfl, rfl, hie, fun _ _ => rfl⟩
  · rw [renderIfEnd_eq]
    rfl

/-- Settles O49: `interrupt(n)` is `takeInterrupt` for n in 1 to 7 and a refusal outside. -/
theorem interruptTakenLostOrRefused : Obligations.InterruptTakenLostOrRefused := by
  intro n s hwf
  refine ⟨fun h1 h7 => ⟨takeInterrupt n s, ?_, takeInterrupt_of_not_ie (n := n), fun hie => ?_⟩, fun hn => ?_⟩
  · simp [interrupt, vectorWellFormed, h1, h7]
  · obtain ⟨hregs, hflags, hpending, hcyc, hbus, hdriver, hout, henv⟩ := takeInterrupt_frame n s
    refine ⟨?_, ?_, ?_, regsKept_of_regs hregs [], hflags, hpending, hcyc, hbus, hdriver, hout, henv⟩ <;>
      rw [takeInterrupt_of_ie hie]
    · exact pushedWord_push16 hwf rfl rfl
    · exact Nat.mod_eq_of_lt (by omega)
  · have hill : vectorWellFormed n = false := by
      simp only [vectorWellFormed, Bool.and_eq_false_iff, decide_eq_false_iff_not]
      omega
    simp [interrupt, hill]

/-! ## The invariant (R50, R269, R270, R278) -/

theorem soundEvents_legal {port : Byte} {n : Nat} (h : (port = 0x03 ∧ n = 4) ∨ (port = 0x05 ∧ n = 5)) (v prev : Byte) :
    ∀ e ∈ soundEvents port v prev n, Event.legal e = true := by
  intro e he
  simp only [soundEvents, List.mem_map, List.mem_filter, List.mem_range] at he
  obtain ⟨i, ⟨hi, -⟩, rfl⟩ := he
  obtain ⟨rfl, rfl⟩ | ⟨rfl, rfl⟩ := h <;> simp [Event.legal, hi]

theorem writeEvents_legal (b : Bus) (p v : Byte) : ∀ e ∈ b.writeEvents p v, Event.legal e = true := by
  unfold Bus.writeEvents
  split
  · rename_i hp
    exact soundEvents_legal (.inl ⟨hp, rfl⟩) v _
  · split
    · rename_i hp
      exact soundEvents_legal (.inr ⟨hp, rfl⟩) v _
    · exact nofun

/-- Emitting legal events keeps the invariant. -/
theorem emit_inv {s : State} (h : StateInv s) {es : List Event} (hes : ∀ e ∈ es, Event.legal e = true) :
    StateInv (s.emit es) :=
  ⟨h.1, fun e he => (List.mem_append.mp he).elim (h.2 e) (hes e)⟩

/-- The invariant speaks of memory's form and the events only. -/
theorem inv_of_eq {s t : State} (h : StateInv s) (hwf : t.mem.wf = true) (hevents : t.out.events = s.out.events) :
    StateInv t := ⟨hwf, hevents ▸ h.2⟩

theorem applyListener_inv {s : State} (h : StateInv s) (r : ListenerResult) : StateInv (applyListener r s) := by
  obtain ⟨-, -, -, -, hout⟩ := applyListener_frame r s
  exact inv_of_eq h (applyListener_wf h.1 r) (congrArg Output.events hout)

theorem input_inv {s : State} (h : StateInv s) (p : Byte) : StateInv (input p s) := by
  unfold input
  split
  · exact h
  · exact h
  · exact applyListener_inv h _

theorem output_inv {s : State} (h : StateInv s) (p : Byte) : StateInv (output p s) := by
  unfold output
  split
  · exact emit_inv (s := { s with bus := s.bus.write p (s.reg .a) }) h (writeEvents_legal s.bus p _)
  · obtain ⟨bs, n, hprint⟩ := harnessOutput_cases s
    rw [hprint]
    exact h
  · exact applyListener_inv h _

/-- Every instruction keeps the invariant: memory changes by stores or a listener's pokes, and OUT alone emits. -/
theorem after_inv {s : State} (h : StateInv s) (i : Instr) : StateInv (s.after i) := by
  by_cases hin : ∃ p, i = .inPort p
  · obtain ⟨p, rfl⟩ := hin
    exact input_inv h p
  by_cases hout : ∃ p, i = .outPort p
  · obtain ⟨p, rfl⟩ := hout
    exact output_inv h p
  obtain ⟨vs, hmem, -⟩ := after_stores (s := s) (fun p e => absurd ⟨p, e⟩ hin) fun p e => absurd ⟨p, e⟩ hout
  refine inv_of_eq h (hmem ▸ storeAll_wf h.1 vs) ?_
  obtain ⟨-, -, -, -, -, -, -, -, hbusOut, -⟩ := onlyTheirOwnersChangeLatchesBusAndDriver i s _ (exec_eq_after i s)
  exact congrArg Output.events (hbusOut (not_exists.mp hout)).2

theorem resetMachine_inv {s : State} (h : StateInv s) : StateInv (resetMachine s) := ⟨rfl, h.2⟩

theorem takeInterrupt_inv {s : State} (h : StateInv s) (n : Nat) : StateInv (takeInterrupt n s) := by
  obtain ⟨-, -, -, -, -, -, hout, -⟩ := takeInterrupt_frame n s
  exact inv_of_eq h (takeInterrupt_wf h.1 n) (congrArg Output.events hout)

theorem vramBytes_length (m : Memory) : (vramBytes m).length = vramSize := by
  rw [vramBytes, List.length_map, List.length_range]

theorem renderIfEnd_inv {s : State} (h : StateInv s) (sel : FrameVec) : StateInv (renderIfEnd sel s) := by
  rw [renderIfEnd_eq]
  refine emit_inv h fun e he => ?_
  cases sel with
  | mid => exact absurd he List.not_mem_nil
  | endOfFrame =>
    rw [List.mem_singleton.mp he]
    exact beq_iff_eq.mpr (vramBytes_length s.mem)

theorem tick_inv {s : State} (h : StateInv s) : StateInv (tick s) := by
  rw [tick_eq]
  exact ⟨takeInterrupt_wf h.1 _, (renderIfEnd_inv h s.driver.nextVec).2⟩

theorem tickIfDue_inv {s : State} (h : StateInv s) (b : Boundary) : StateInv (tickIfDue b s) := by
  obtain ⟨htick, -⟩ | hsame := tickIfDue_cases b s
  · rw [htick]
    exact tick_inv h
  · rw [hsame]
    exact h

theorem addBudget_inv {s : State} (h : StateInv s) (n : Nat) : StateInv (addBudget n s) := by
  unfold addBudget
  split <;> exact h

theorem applyAct_inv {s t : State} (h : StateInv s) {a : HostAct} (hact : applyAct s a = .next t) : StateInv t := by
  cases a with
  | enqueue port bit pressed =>
    simp only [applyAct, enqueue] at hact
    split at hact
    · obtain rfl := by simpa using hact
      exact h
    · cases hact
  | quit =>
    obtain rfl := by simpa [applyAct] using hact
    exact h
  | interrupt n =>
    simp only [applyAct, interrupt] at hact
    split at hact
    · obtain rfl := by simpa using hact
      exact takeInterrupt_inv h n
    · cases hact
  | poke p =>
    obtain rfl := by simpa [applyAct] using hact
    obtain ⟨-, -, -, -, -, hout, -⟩ := applyPoke_frame s p
    exact inv_of_eq h (applyPoke_wf h.1 p) (congrArg Output.events hout)
  | reset =>
    obtain rfl := by simpa [applyAct] using hact
    exact resetMachine_inv h

theorem applyActs_inv {s t : State} (h : StateInv s) {as : List HostAct} (hacts : applyActs s as = .next t) :
    StateInv t := by
  induction as generalizing s with
  | nil =>
    obtain rfl := by simpa [applyActs] using hacts
    exact h
  | cons a as ih =>
    unfold applyActs at hacts
    split at hacts
    · exact ih (applyAct_inv h ‹_›) hacts
    · cases hacts
    · cases hacts

theorem closeTurn_inv {n : Nat} {s t : State} (h : StateInv s) (hturn : closeTurn n s = .next t) : StateInv t := by
  obtain ⟨u, hacts, hlate⟩ := (closeTurn_next_iff n s t).mp hturn
  have hu : StateInv u := applyActs_inv (s := dropBoundary (addBudget n s)) (addBudget_inv h n) hacts
  exact applyActs_inv (tickIfDue_inv hu (nextBoundary s)) hlate

/-- Settles O11: the instruction keeps the invariant, and so does the turn of the driver loop that follows it. -/
theorem everyStepKeepsTheInvariant : Obligations.EveryStepKeepsTheInvariant := by
  intro s t h hstep
  obtain ⟨-, hrefused⟩ | ⟨-, i, n, hturn⟩ := step_cases s
  · exact nomatch hrefused.symm.trans hstep
  · exact closeTurn_inv (after_inv (s := s.fetched i) h i) (hturn.symm.trans hstep)

/-- Settles O10: an empty memory and an empty trace. -/
theorem resetMeetsTheInvariant : Obligations.ResetMeetsTheInvariant := ⟨rfl, nofun⟩

/-! ## Reset, and turns in which little happens -/

/-- Settles O12: each field of `State.reset` is its value in the table of R42. -/
theorem resetLeavesTheTabulatedState : Obligations.ResetLeavesTheTabulatedState := by
  refine ⟨fun r => ?_, rfl, rfl, rfl, rfl, rfl, rfl, rfl, fun _ => rfl, rfl, rfl, rfl, rfl, rfl⟩
  cases r <;> rfl

theorem addBudget_env (n : Nat) (s : State) : (addBudget n s).env = s.env := by
  unfold addBudget
  split <;> rfl

theorem dropBoundary_of_nil {s : State} (h : s.env.script = []) : dropBoundary s = s := by
  have htail : s.env.script.tail = s.env.script := by
    rw [h]
    rfl
  rw [dropBoundary, htail]

theorem tickIfDue_of_not_due {b : Boundary} {s : State} (h : tickIsDue b s = false) : tickIfDue b s = s := by
  rw [tickIfDue, h, Bool.and_false]
  rfl

/-- Settles O7: an empty script has no act, and on the scripted schedule no Tick is due. -/
theorem quietTurnOnlyAddsToTheBudget : Obligations.QuietTurnOnlyAddsToTheBudget := by
  intro s n hin hout hschedule hscript
  have hboundary : nextBoundary s = ⟨[], false, []⟩ := by
    rw [nextBoundary, hscript]
    rfl
  have hbudget : addBudget n s = { s with driver := { s.driver with budget := s.driver.budget + n } } :=
    if_pos (by simp [frameDriverRuns, hin, hout])
  have hscript' : (addBudget n s).env.script = [] := by rw [addBudget_env, hscript]
  have hdue : tickIsDue ⟨[], false, []⟩ (addBudget n s) = false := by
    rw [tickIsDue, addBudget_env, hschedule]
  rw [closeTurn_next_iff, hboundary]
  exact ⟨addBudget n s, congrArg _ (dropBoundary_of_nil hscript'),
    congrArg _ ((tickIfDue_of_not_due hdue).trans hbudget)⟩

/-- Settles O52: the Tick test is the conjunction of the cabinet, no Reset, QUIT clear and the schedule's own test. -/
theorem tickRunsExactlyWhenDue : Obligations.TickRunsExactlyWhenDue := by
  intro b s
  refine ⟨fun hin hout hquit hreset => ?_, fun h => ?_⟩
  · have hgate : tickIfDue b s = if tickIsDue b s then tick s else s := by
      simp [tickIfDue, frameDriverRuns, resetThisTurn, hin, hout, hquit, hreset]
    refine ⟨fun hschedule => ?_, fun n hschedule => ⟨fun hdue => ?_, fun hearly => ?_⟩⟩
    · rw [hgate, tickIsDue, hschedule]
    · rw [hgate, tickIsDue, hschedule]
      exact if_pos (decide_eq_true hdue)
    · rw [hgate, tickIsDue, hschedule]
      exact if_neg (by simpa using hearly)
  · obtain ⟨-, hruns, hnot, hclear, -⟩ | hsame := tickIfDue_cases b s
    · simp only [frameDriverRuns, Bool.and_eq_true, beq_iff_eq] at hruns
      simp [hruns, hnot, hclear] at h
    · exact hsame

end Sys2Proof.Machine
end

section
/-! Memory, IN and OUT, the host's operations and the input events (R52, R53, R231 to R238, R262 to R274, R301 to R306). -/

namespace Sys2Proof.Machine

open Sys2Proof.Stmt

/-! ## Memory (R52, R53, R63) -/

/-- No cell stands outside the address space. -/
theorem Memory.read_of_ge {m : Memory} {lo a : Nat} (h : Memory.wfFrom lo m = true) (ha : Config.memorySize ≤ a) :
    m.read a = Config.resetByte := by
  induction m generalizing lo with
  | nil => rfl
  | cons c m ih =>
    obtain ⟨k, w⟩ := c
    simp only [Memory.wfFrom, Bool.and_eq_true, decide_eq_true_eq] at h
    obtain ⟨⟨⟨-, hk⟩, -⟩, hm⟩ := h
    rw [Memory.read, if_neg (by omega)]
    exact ih hm

/-- Memories in canonical form that read alike at every address are equal. -/
theorem mem_eq_of_read8 {s t : State} (hs : s.mem.wf = true) (ht : t.mem.wf = true)
    (h : ∀ a : Word, s.read8 a = t.read8 a) : s.mem = t.mem := by
  refine Memory.eq_of_read hs ht fun a => ?_
  by_cases ha : a < Config.memorySize
  · have hword : (BitVec.ofNat 16 a).toNat = a := Nat.mod_eq_of_lt ha
    have hread := h (BitVec.ofNat 16 a)
    rwa [State.read8, State.read8, hword] at hread
  · rw [Memory.read_of_ge hs (Nat.le_of_not_lt ha), Memory.read_of_ge ht (Nat.le_of_not_lt ha)]

/-- Settles O60: the laws of a read after a store, and of equal reads. -/
theorem memoryReadsWhatWasStored : Obligations.MemoryReadsWhatWasStored := by
  refine ⟨fun s a b v hwf => ⟨write8_wf hwf a v, ?_, fun hne => ?_⟩, fun s t => mem_eq_of_read8⟩
  · rw [read8_write8 hwf, if_pos rfl]
  · rw [read8_write8 hwf, if_neg hne]

/-! ## IN and OUT on the cabinet's bus (R232, R233) -/

theorem after_inPort (p : Byte) (s : State) : s.after (.inPort p) = (input p s).charge 10 := rfl

theorem after_outPort (p : Byte) (s : State) : s.after (.outPort p) = (output p s).charge 10 := rfl

theorem input_cabinet {s : State} (h : s.env.input = .cabinetBus) (p : Byte) : input p s = s.setReg .a (portRead s p) := by
  rw [input, h]

theorem output_cabinet {s : State} (h : s.env.output = .cabinetBus) (p : Byte) : output p s = portWrite s p (s.reg .a) := by
  rw [output, h]

/-- Every port but 1, 2 and 3 reads 0x00 (R266). -/
theorem portRead_unmapped {p : Byte} (h : p.toNat = 0 ∨ 4 ≤ p.toNat) (s : State) : portRead s p = 0x00 := by
  have hne (n : Byte) (hn : 1 ≤ n.toNat ∧ n.toNat ≤ 3) : p ≠ n := by
    rintro rfl
    omega
  rw [portRead, Bus.read, if_neg (hne 1 (by decide)), if_neg (hne 2 (by decide)), if_neg (hne 3 (by decide))]

/-- Settles O43: IN writes A with what the port reads, and nothing else. -/
theorem inReadsTheCabinetBus : Obligations.InReadsTheCabinetBus := by
  intro p s hin
  refine ⟨rfl, _, exec_eq_after _ s, ?_⟩
  rw [after_inPort, input_cabinet hin]
  refine ⟨regsKept_of_set rfl, fun _ _ => rfl, ⟨rfl, rfl, rfl, systemKept_refl s⟩, rfl, fun h => ?_, fun h => ?_,
    fun h => ?_, fun h => ?_⟩
  · obtain rfl : p = 0x01 := BitVec.eq_of_toNat_eq h
    rfl
  · obtain rfl : p = 0x02 := BitVec.eq_of_toNat_eq h
    rfl
  · obtain rfl : p = 0x03 := BitVec.eq_of_toNat_eq h
    exact shiftResult_toNat s.bus
  · exact congrArg BitVec.toNat (portRead_unmapped h s)

/-- A write of port 3 latches the byte and emits the rising edges of bits 0 to 3 (R269, R274). -/
theorem portWrite_three (s : State) (v : Byte) :
    portWrite s 0x03 v = { s with bus := { s.bus with snd1Prev := v } }.emit (soundEvents 0x03 v s.bus.snd1Prev 4) := rfl

/-- A write of port 5 latches the byte and emits the rising edges of bits 0 to 4 (R270, R274). -/
theorem portWrite_five (s : State) (v : Byte) :
    portWrite s 0x05 v = { s with bus := { s.bus with snd2Prev := v } }.emit (soundEvents 0x05 v s.bus.snd2Prev 5) := rfl

/-- A write of any other port does nothing (R271, R272). -/
theorem portWrite_unmapped {p : Byte} (h : p.toNat = 0 ∨ p.toNat = 1 ∨ 6 ≤ p.toNat) (s : State) (v : Byte) :
    portWrite s p v = s := by
  have hne (n : Byte) (hn : 2 ≤ n.toNat ∧ n.toNat ≤ 5) : p ≠ n := by
    rintro rfl
    omega
  rw [portWrite, Bus.write, if_neg (hne 2 (by decide)), if_neg (hne 3 (by decide)), if_neg (hne 4 (by decide)),
    if_neg (hne 5 (by decide)), Bus.writeEvents, if_neg (hne 3 (by decide)), if_neg (hne 5 (by decide))]
  exact emit_nil s

/-- Settles O44: OUT is a port write of A, and each port's write is the one its rule gives. -/
theorem outWritesTheCabinetBus : Obligations.OutWritesTheCabinetBus := by
  intro p s hout
  refine ⟨rfl, _, exec_eq_after _ s, ?_⟩
  rw [after_outPort, output_cabinet hout]
  refine ⟨fun _ _ => rfl, fun _ _ => rfl, rfl, rfl, rfl, rfl, rfl, rfl, rfl, rfl, rfl, fun h => ?_, fun h => ?_, fun h => ?_,
    fun h => ?_, fun h => ?_⟩
  · obtain rfl : p = 0x02 := BitVec.eq_of_toNat_eq h
    rw [portWrite_two]
    exact ⟨rfl, rfl⟩
  · obtain rfl : p = 0x04 := BitVec.eq_of_toNat_eq h
    rw [portWrite_four]
    exact ⟨rfl, rfl⟩
  · obtain rfl : p = 0x03 := BitVec.eq_of_toNat_eq h
    rw [portWrite_three]
    exact ⟨rfl, rfl⟩
  · obtain rfl : p = 0x05 := BitVec.eq_of_toNat_eq h
    rw [portWrite_five]
    exact ⟨rfl, rfl⟩
  · rw [portWrite_unmapped h]
    exact ⟨rfl, rfl⟩

/-! ## IN and OUT under a listener (R305, R306) -/

/-- Settles O46: a listener's answer is its pokes, one free value used, and QUIT where it ends the run. -/
theorem listenersReachTheCpuOnly : Obligations.ListenersReachTheCpuOnly := by
  intro p s i r h
  have hafter : s.after i = (applyListener r s).charge 10 := by
    obtain ⟨rfl, hin, rfl⟩ | ⟨rfl, hout, rfl⟩ := h
    · rw [after_inPort, input, hin]
    · rw [after_outPort, output, hout]
  obtain ⟨hie, hpending, hcyc, hbus, hout⟩ := applyListener_frame r s
  refine ⟨_, exec_eq_after i s, ?_⟩
  rw [hafter]
  refine ⟨?_, ?_, ?_, ?_, ?_, hie, hpending, hbus, hout, congrArg (· + 10) hcyc, ?_, ?_⟩
  all_goals
    rw [applyListener_eq]
    rfl

theorem step_of_quit {s : State} (h : s.driver.quit = true) : step s = .refused .runEnded := if_pos h

/-- The string at `a` ends at the first '$', `n` bytes further (R306). -/
theorem dollarString_of_first {s : State} {n m : Nat} {a : Word} (hnm : n < m)
    (hend : s.read8 (a + BitVec.ofNat 16 n) = dollar)
    (hbefore : ∀ k < n, s.read8 (a + BitVec.ofNat 16 k) ≠ dollar) :
    dollarString s m a = some ((List.range n).map fun k => s.read8 (a + BitVec.ofNat 16 k)) := by
  induction n generalizing m a with
  | zero =>
    obtain ⟨m, rfl⟩ := Nat.exists_eq_succ_of_ne_zero (Nat.ne_of_gt hnm)
    rw [BitVec.add_zero] at hend
    rw [dollarString, if_pos hend]
    rfl
  | succ n ih =>
    obtain ⟨m, rfl⟩ := Nat.exists_eq_succ_of_ne_zero (Nat.ne_of_gt (Nat.zero_lt_of_lt hnm))
    have hnext (k : Nat) : a + 1 + BitVec.ofNat 16 k = a + BitVec.ofNat 16 (k + 1) := by
      rw [BitVec.add_assoc, BitVec.add_comm 1, BitVec.ofNat_add]
      rfl
    have hfirst : s.read8 a ≠ dollar := by simpa using hbefore 0 (Nat.succ_pos n)
    have htail := ih (m := m) (a := a + 1) (by omega) (by rw [hnext]; exact hend) fun k hk => by
      rw [hnext]
      exact hbefore (k + 1) (by omega)
    simp only [hnext] at htail
    rw [dollarString, if_neg hfirst, htail, List.range_succ_eq_map]
    simp

theorem dollarString_of_no_dollar {s : State} (h : ∀ a : Word, s.read8 a ≠ dollar) (m : Nat) (a : Word) :
    dollarString s m a = none := by
  induction m generalizing a with
  | zero => rfl
  | succ m ih => rw [dollarString, if_neg (h a), ih (a + 1), Option.map_none]

/-- C = 2 prints the character in E (R305). -/
theorem harnessOutput_character {s : State} (h : s.reg .c = 2) : harnessOutput s = s.print [s.reg .e] := if_pos h

/-- C = 9 prints the string at DE, or a free value where memory has no '$' (R305, R306). -/
theorem harnessOutput_string {s : State} (h : s.reg .c = 9) :
    harnessOutput s =
      match dollarString s Config.memorySize (s.pair .de) with
      | some bs => s.print bs
      | none => (useFree s).print (Config.unterminatedString s.env.freeCount) := by
  rw [harnessOutput, h]
  rfl

theorem harnessOutput_other {s : State} (h2 : s.reg .c ≠ 2) (h9 : s.reg .c ≠ 9) : harnessOutput s = s := by
  rw [harnessOutput, if_neg h2, if_neg h9]

/-- The harness's print leaves the CPU, memory, the bus, the driver and the events (R306). -/
theorem harnessOutput_frame (s : State) :
    (harnessOutput s).regs = s.regs ∧ (harnessOutput s).sp = s.sp ∧ (harnessOutput s).pc = s.pc ∧
      (harnessOutput s).flags = s.flags ∧ (harnessOutput s).ie = s.ie ∧ (harnessOutput s).iePending = s.iePending ∧
      (harnessOutput s).cyc = s.cyc ∧ (harnessOutput s).mem = s.mem ∧ (harnessOutput s).bus = s.bus ∧
      (harnessOutput s).driver = s.driver ∧ (harnessOutput s).out.events = s.out.events := by
  obtain ⟨bs, n, h⟩ := harnessOutput_cases s
  rw [h]
  exact ⟨rfl, rfl, rfl, rfl, rfl, rfl, rfl, rfl, rfl, rfl, rfl⟩

/-- Settles O45: IN under the harness sets QUIT, after which no step is performed; OUT prints by C. -/
theorem harnessListenersPrintAndEndTheRun : Obligations.HarnessListenersPrintAndEndTheRun := by
  intro p s
  refine ⟨fun hin => ⟨_, exec_eq_after _ s, ?_⟩, fun hout => ⟨_, exec_eq_after _ s, ?_⟩⟩
  · rw [after_inPort, input, hin]
    exact ⟨rfl, fun _ _ => rfl, fun _ _ => rfl, rfl, rfl, rfl, rfl, rfl, rfl, rfl, rfl, rfl, step_of_quit rfl⟩
  · have hafter : s.after (.outPort p) = (harnessOutput s).charge 10 := by rw [after_outPort, output, hout]
    have hcode (n : Byte) : (s.reg .c).toNat = n.toNat ↔ s.reg .c = n := BitVec.toNat_eq.symm
    obtain ⟨hregs, hsp, hpc, hflags, hie, hpending, hcyc, hmem, hbus, hdriver, hevents⟩ := harnessOutput_frame s
    rw [hafter]
    refine ⟨regsKept_of_regs hregs [], memKept_of_mem hmem [], hsp, hpc, hflags, hie, hpending, hbus, hdriver, hevents,
      congrArg (· + 10) hcyc, fun h2 => ?_, fun h9 n hn hend hbefore => ?_, fun h9 hno => ?_, fun h2 h9 => ?_⟩
    · rw [harnessOutput_character ((hcode 2).mp h2)]
      exact ⟨rfl, rfl⟩
    · rw [pairValue_eq_pair] at hend hbefore ⊢
      rw [harnessOutput_string ((hcode 9).mp h9), dollarString_of_first (m := Config.memorySize) hn hend hbefore]
      exact ⟨rfl, rfl⟩
    · rw [harnessOutput_string ((hcode 9).mp h9), dollarString_of_no_dollar hno]
      exact ⟨rfl, rfl⟩
    · rw [harnessOutput_other (mt (hcode 2).mpr h2) (mt (hcode 9).mpr h9)]
      exact ⟨rfl, rfl⟩

/-! ## EI, DI, NOP and HLT (R234 to R238) -/

theorem encode_reservedNops {i : Instr} (h : i ∈ Instr.reservedNops) :
    ∃ k : Nat, 1 ≤ k ∧ k ≤ 7 ∧ encode i = [byteOf (8 * k)] := by
  simp only [Instr.reservedNops, List.mem_cons, List.not_mem_nil, or_false] at h
  obtain rfl | rfl | rfl | rfl | rfl | rfl | rfl := h
  · exact ⟨1, by decide⟩
  · exact ⟨2, by decide⟩
  · exact ⟨3, by decide⟩
  · exact ⟨4, by decide⟩
  · exact ⟨5, by decide⟩
  · exact ⟨6, by decide⟩
  · exact ⟨7, by decide⟩

/-- Charging cycles leaves registers, memory and all that `PlainKept` lists. -/
theorem charge_kept (s : State) (n : Nat) :
    RegsKept s (s.charge n) [] ∧ MemKept s (s.charge n) [] ∧ PlainKept s (s.charge n) ∧ Cost s (s.charge n) n :=
  ⟨fun _ _ => rfl, fun _ _ => rfl, ⟨rfl, rfl, rfl, systemKept_refl s⟩, rfl⟩

/-- Settles O47: EI and DI write one latch each, the NOPs charge their cycles alone. -/
theorem eiDiAndNops : Obligations.EiDiAndNops := by
  intro s
  exact ⟨⟨rfl, _, rfl, rfl, rfl, fun _ _ => rfl, fun _ _ => rfl, rfl, rfl, rfl, rfl, rfl, rfl, rfl, rfl⟩,
    ⟨rfl, _, rfl, rfl, rfl, fun _ _ => rfl, fun _ _ => rfl, rfl, rfl, rfl, rfl, rfl, rfl, rfl, rfl⟩,
    ⟨rfl, _, rfl, charge_kept s 4⟩,
    fun i hi => ⟨encode_reservedNops hi, _, exec_reservedNops hi s, charge_kept s 4⟩⟩

/-- Settles O48: HLT writes PC with the address of its own byte. -/
theorem hltParksPc : Obligations.HltParksPc :=
  fun s => ⟨rfl, _, rfl, rfl, fun _ _ => rfl, fun _ _ => rfl, rfl, rfl, systemKept_refl s, rfl⟩

/-! ## Input events (R273, R279) -/

theorem getLsbD_one_shiftLeft (i : Fin 8) {k : Nat} (hk : k < 8) : (1#8 <<< i.val).getLsbD k = decide (k = i.val) := by
  rw [BitVec.getLsbD_shiftLeft, BitVec.getLsbD_one]
  simp only [hk, decide_true, Bool.true_and]
  by_cases h : k = i.val
  · simp [h]
  · by_cases hlt : k < i.val
    · simp [h, hlt]
    · have : k - i.val ≠ 0 := by omega
      simp [h, this]

/-- Writing one bit of a latch leaves the other seven. -/
theorem setLatchBit_getLsbD (latch : Byte) (i : Fin 8) (pressed : Bool) {k : Nat} (hk : k < 8) :
    (setLatchBit latch i pressed).getLsbD k = if k = i.val then pressed else latch.getLsbD k := by
  unfold setLatchBit
  cases pressed
  · simp only [Bool.false_eq_true, if_false, BitVec.getLsbD_and, BitVec.getLsbD_not, getLsbD_one_shiftLeft i hk]
    by_cases h : k = i.val <;> simp [h, hk]
  · simp only [if_true, BitVec.getLsbD_or, getLsbD_one_shiftLeft i hk]
    by_cases h : k = i.val <;> simp [h]

theorem setLatchBit_idem (latch : Byte) (i : Fin 8) (pressed : Bool) :
    setLatchBit (setLatchBit latch i pressed) i pressed = setLatchBit latch i pressed := by
  refine BitVec.eq_of_getLsbD_eq fun k hk => ?_
  rw [setLatchBit_getLsbD _ i pressed hk, setLatchBit_getLsbD latch i pressed hk]
  split <;> rfl

theorem inputWellFormed_iff (port bit : Nat) :
    inputWellFormed port bit = true ↔ (port = 1 ∨ port = 2) ∧ bit < 8 := by
  simp [inputWellFormed]

/-- Settles O53: an event in range is appended and one out of range refused; `on_input` writes one bit of one latch. -/
theorem inputEventsAreQueuedAndApplied : Obligations.InputEventsAreQueuedAndApplied := by
  refine ⟨fun port bit pressed s => ⟨fun h => ?_, fun h => ?_⟩, fun b e k hk => ?_⟩
  · have hval : (Fin.ofNat 8 bit).val = bit := Nat.mod_eq_of_lt h.2
    refine ⟨⟨if port = 1 then .in1 else .in2, Fin.ofNat 8 bit, pressed⟩, rfl, hval, rfl, ?_⟩
    rw [applyAct, enqueue, inputEventOf, if_pos ((inputWellFormed_iff port bit).mpr h)]
  · rw [applyAct, enqueue, inputEventOf, if_neg (mt (inputWellFormed_iff port bit).mp h)]
  · obtain ⟨port, i, pressed⟩ := e
    cases port with
    | in1 =>
      have hidem := setLatchBit_idem b.in1 i pressed
      simp [Bus.onInput, setLatchBit_getLsbD _ i pressed hk, hidem]
    | in2 =>
      have hidem := setLatchBit_idem b.in2 i pressed
      simp [Bus.onInput, setLatchBit_getLsbD _ i pressed hk, hidem]

/-! ## The host's loads, peeks and pokes (R301, R302) -/

/-- Loading touches memory alone. -/
theorem loadProgram_frame (bytes : List Byte) (origin : Nat) (s : State) :
    { loadProgram bytes origin s with mem := s.mem } = s := by
  induction bytes generalizing origin s with
  | nil => rfl
  | cons v vs ih =>
    rw [loadProgram]
    split
    · exact congrArg (fun t : State => { t with mem := s.mem }) (ih (origin + 1) { s with mem := s.mem.write origin v })
    · exact ih (origin + 1) s

/-- Loading stores each byte at its own address and drops those past the last one (R301, D24). -/
theorem read_loadProgram {s : State} (h : s.mem.wf = true) (bytes : List Byte) (origin : Nat) {a : Nat}
    (ha : a < Config.memorySize) :
    (loadProgram bytes origin s).mem.read a =
      if origin ≤ a ∧ a < origin + bytes.length then bytes.getD (a - origin) 0x00 else s.mem.read a := by
  induction bytes generalizing origin s with
  | nil => rw [if_neg (by simp only [List.length_nil]; omega), loadProgram]
  | cons v vs ih =>
    rw [loadProgram, List.length_cons]
    by_cases hin : origin < Config.memorySize
    · rw [if_pos hin, ih (Memory.write_wf v h hin), Memory.read_write v h]
      by_cases heq : a = origin
      · subst heq
        rw [if_neg (by omega), if_pos rfl, if_pos (by omega), Nat.sub_self, List.getD_cons_zero]
      · rw [if_neg heq]
        by_cases hrange : origin + 1 ≤ a ∧ a < origin + 1 + vs.length
        · have hidx : a - origin = a - (origin + 1) + 1 := by omega
          rw [if_pos hrange, if_pos (by omega), hidx, List.getD_cons_succ]
        · rw [if_neg hrange, if_neg (by omega)]
    · rw [if_neg hin, ih h, if_neg (by omega), if_neg (by omega)]

/-- Settles O54: loading is its stores, and a poke writes PC or one byte. -/
theorem hostLoadsPeeksAndPokes : Obligations.HostLoadsPeeksAndPokes := by
  intro s hwf
  refine ⟨fun bytes origin => ⟨fun a => ?_, loadProgram_frame bytes origin.toNat s⟩, fun a v => ?_⟩
  · exact read_loadProgram hwf bytes origin.toNat (toNat_lt_memorySize a)
  · refine ⟨rfl, rfl, rfl, ?_, fun b hb => ?_, rfl⟩
    · exact (read8_write8 hwf a a v).trans (if_pos rfl)
    · exact (read8_write8 hwf a b v).trans (if_neg (mt List.mem_singleton.mpr hb))

end Sys2Proof.Machine
end

section
/-! Arithmetic, logic, compare and rotates (spec/41_arithmetic.md to spec/44_compare.md): the result and the flags of each
core, and what an instruction of the accumulator leaves alone. -/

namespace Sys2Proof.Machine

open Sys2Proof.Stmt

/-! ## Encodings (R72, R76) -/

/-- The opcode byte of an operation's row in the register form `10aaasss`. -/
def aluRow : AluOp → Nat
  | .add => 0x80
  | .adc => 0x88
  | .sub => 0x90
  | .sbb => 0x98
  | .ana => 0xA0
  | .xra => 0xA8
  | .ora => 0xB0
  | .cmp => 0xB8

theorem encode_alu (o : AluOp) (x : R8) : encode (.alu o x) = [byteOf (aluRow o + r8Code x)] := by
  cases o <;> rcases x with ⟨_ | _ | _ | _ | _ | _ | _⟩ | _ <;> rfl

theorem encode_inr (x : R8) : encode (.inr x) = [byteOf (0x04 + 8 * r8Code x)] := by
  rcases x with ⟨_ | _ | _ | _ | _ | _ | _⟩ | _ <;> rfl

theorem encode_dcr (x : R8) : encode (.dcr x) = [byteOf (0x05 + 8 * r8Code x)] := by
  rcases x with ⟨_ | _ | _ | _ | _ | _ | _⟩ | _ <;> rfl

theorem encode_inx (p : RP) : encode (.inx p) = [byteOf (0x03 + 16 * rpCode p)] := by
  rcases p with ⟨_ | _ | _⟩ | _ <;> rfl

theorem encode_dcx (p : RP) : encode (.dcx p) = [byteOf (0x0B + 16 * rpCode p)] := by
  rcases p with ⟨_ | _ | _⟩ | _ <;> rfl

theorem encode_dad (p : RP) : encode (.dad p) = [byteOf (0x09 + 16 * rpCode p)] := by
  rcases p with ⟨_ | _ | _⟩ | _ <;> rfl

/-! ## The accumulator's frame -/

theorem reg_setAccumulator_a (r : Byte × Flags) (s : State) (n : Nat) : ((setAccumulator r s).charge n).reg .a = r.1 := rfl

/-- Writing A and the flags leaves all else (R120, R150). -/
theorem setAccumulator_accKept (r : Byte × Flags) (s : State) (n : Nat) :
    AccKept s ((setAccumulator r s).charge n) [.a] :=
  ⟨regsKept_of_set (x := .a) rfl, fun _ _ => rfl, rfl, rfl, systemKept_refl s⟩

/-- Writing the flags leaves all else. -/
theorem setFlags_accKept (f : Flags) (s : State) (n : Nat) : AccKept s ((s.setFlags f).charge n) [] :=
  ⟨fun _ _ => rfl, fun _ _ => rfl, rfl, rfl, systemKept_refl s⟩

theorem cost_cyclesFor {s t : State} {x : R8} {register memory : Nat} (h : Cost s t (cyclesFor x register memory)) :
    Cost s t (if x = .m then memory else register) := by
  rwa [cyclesFor_eq_ite] at h

/-! ## Additions (R120, R122 to R125) -/

/-- A and the flags after an addition. -/
theorem addCore_added (s : State) (b : Byte) (cin : Bool) (n : Nat) :
    Added s ((setAccumulator (addCore (s.reg .a) b cin) s).charge n) b (num cin) := by
  exact ⟨BitVec.toNat_ofNat _ 8, decide_eq_true_iff, decide_eq_true_iff, flagsOf_zspOf _ _ _⟩

/-- Settles O24: each addition writes A and the flags with `addCore` of its operand and carry-in. -/
theorem additionsSetAAndAllFlags : Obligations.AdditionsSetAAndAllFlags := by
  intro s
  simp only [r8Value_eq_readR8]
  refine ⟨fun x => ⟨⟨encode_alu .add x, _, exec_add x s, ?_⟩, encode_alu .adc x, _, exec_adc x s, ?_⟩, fun v =>
    ⟨⟨rfl, _, rfl, ?_⟩, rfl, _, rfl, ?_⟩⟩
  · exact ⟨addCore_added s _ false _, setAccumulator_accKept _ s _, cost_cyclesFor rfl⟩
  · exact ⟨addCore_added s _ s.flags.cy _, setAccumulator_accKept _ s _, cost_cyclesFor rfl⟩
  · exact ⟨addCore_added s v false 7, setAccumulator_accKept _ s 7, rfl⟩
  · exact ⟨addCore_added s v s.flags.cy 7, setAccumulator_accKept _ s 7, rfl⟩

/-! ## Subtractions and compares (R121, R126 to R129, R180 to R182) -/

/-- The statements' number of a flag is the model's. -/
theorem bit_eq_num (v : Bool) : bit v = num v := rfl

theorem subCore_fst (a b : Byte) (bin : Bool) : (subCore a b bin).1 = difference a b (num bin) := by
  have ha := a.isLt
  have hb := b.isLt
  have hbin : num bin ≤ 1 := by cases bin <;> decide
  apply BitVec.eq_of_toNat_eq
  simp only [subCore, difference, bit_eq_num, BitVec.toNat_ofInt, BitVec.toNat_ofNat]
  omega

theorem subCore_borrowed (a b : Byte) (bin : Bool) : Borrowed (subCore a b bin).2 a b (num bin) := by
  refine ⟨decide_eq_true_iff.trans ?_, decide_eq_true_iff⟩
  rw [bit_eq_num]
  omega

theorem subCore_zspOf (a b : Byte) (bin : Bool) : ZspOf (subCore a b bin).2 (difference a b (num bin)) := by
  rw [← subCore_fst]
  exact flagsOf_zspOf _ _ _

/-- A and the flags after a subtraction. -/
theorem subCore_subtracted (s : State) (b : Byte) (bin : Bool) (n : Nat) :
    Subtracted s ((setAccumulator (subCore (s.reg .a) b bin) s).charge n) b (num bin) := by
  refine ⟨subCore_fst _ _ _, subCore_borrowed _ _ _, ?_⟩
  rw [reg_setAccumulator_a, subCore_fst]
  exact subCore_zspOf _ _ _

/-- Settles O25: each subtraction writes A and the flags with `subCore` of its operand and borrow-in. -/
theorem subtractionsSetAAndAllFlags : Obligations.SubtractionsSetAAndAllFlags := by
  intro s
  simp only [r8Value_eq_readR8]
  refine ⟨fun x => ⟨⟨encode_alu .sub x, _, exec_sub x s, ?_⟩, encode_alu .sbb x, _, exec_sbb x s, ?_⟩, fun v =>
    ⟨⟨rfl, _, rfl, ?_⟩, rfl, _, rfl, ?_⟩⟩
  · exact ⟨subCore_subtracted s _ false _, setAccumulator_accKept _ s _, cost_cyclesFor rfl⟩
  · exact ⟨subCore_subtracted s _ s.flags.cy _, setAccumulator_accKept _ s _, cost_cyclesFor rfl⟩
  · exact ⟨subCore_subtracted s v false 7, setAccumulator_accKept _ s 7, rfl⟩
  · exact ⟨subCore_subtracted s v s.flags.cy 7, setAccumulator_accKept _ s 7, rfl⟩

/-- With no borrow-in the difference is zero exactly when the operands are equal. -/
theorem subCore_z_iff (a b : Byte) : (subCore a b false).2.z = true ↔ a = b := by
  have ha := a.isLt
  have hb := b.isLt
  rw [(subCore_zspOf a b false).1, ← BitVec.toNat_inj]
  simp only [difference, num, Bool.false_eq_true, if_false, BitVec.toNat_ofNat]
  omega

/-- The flags after a compare, and all else kept. -/
theorem compare_flags (s : State) (b : Byte) (n : Nat) :
    let t := (s.setFlags (subCore (s.reg .a) b false).2).charge n
    Borrowed t.flags (s.reg .a) b 0 ∧ ZspOf t.flags (difference (s.reg .a) b 0) ∧
      (t.flags.z = true ↔ s.reg .a = b) ∧ AccKept s t [] :=
  ⟨subCore_borrowed _ _ false, subCore_zspOf _ _ false, subCore_z_iff _ _, setFlags_accKept _ s n⟩

/-- Settles O34: a compare writes the flags of `subCore` with no borrow-in, and drops the difference. -/
theorem comparesSetFlagsAndKeepA : Obligations.ComparesSetFlagsAndKeepA := by
  intro s
  simp only [r8Value_eq_readR8]
  refine ⟨fun x => ⟨encode_alu .cmp x, _, exec_cmp x s, ?_⟩, fun v => ⟨rfl, _, rfl, ?_⟩⟩
  · obtain ⟨hborrow, hzsp, hz, hkept⟩ := compare_flags s (readR8 s x) (cyclesFor x 4 7)
    exact ⟨hborrow, hzsp, hz, hkept, cost_cyclesFor rfl⟩
  · obtain ⟨hborrow, hzsp, hz, hkept⟩ := compare_flags s v 7
    exact ⟨hborrow, hzsp, hz, hkept, rfl⟩

/-! ## Decimal adjust (R135) -/

/-- The correction's low digit is due: step 1 of DAA adds 6. -/
def daaLow (a : Byte) (f : Flags) : Bool := decide (9 < a.toNat % 16) || f.ac

/-- The correction's high digit is due, by the closed form. -/
def daaHigh (a : Byte) (f : Flags) : Bool :=
  decide (9 < a.toNat / 16) || f.cy || (decide (9 ≤ a.toNat / 16) && decide (9 < a.toNat % 16))

/-- The sum of step 1 of DAA, not yet cut to 8 bits. -/
def daaStep1 (a : Byte) (f : Flags) : Nat := a.toNat + (if daaLow a f then 0x06 else 0)

/-- The closed form of the high digit is the test that step 2 makes of the value after step 1. -/
theorem daaHigh_eq_step2_test (a : Byte) (f : Flags) :
    daaHigh a f =
      (decide (9 < highNibble (BitVec.ofNat 8 (daaStep1 a f))) || (f.cy || decide (0xFF < daaStep1 a f))) := by
  have ha := a.isLt
  cases hcy : f.cy
  · rw [Bool.eq_iff_iff]
    simp only [daaHigh, hcy, Bool.or_eq_true, Bool.and_eq_true, Bool.false_eq_true, decide_eq_true_eq,
      or_false, false_or]
    simp only [daaStep1, highNibble, BitVec.toNat_ofNat]
    split
    · omega
    · next hlow =>
      simp only [daaLow, Bool.or_eq_true, decide_eq_true_eq, not_or] at hlow
      omega
  · simp [daaHigh, hcy]

/-- Step 2 carries exactly when it adds 0x60. -/
theorem daaStep2_carry (b : Byte) (c : Bool) :
    (c || decide (0xFF < b.toNat + (if decide (9 < highNibble b) || c then 0x60 else 0))) =
      (decide (9 < highNibble b) || c) := by
  have hb := b.isLt
  cases c with
  | true => simp
  | false =>
    by_cases h : 9 < highNibble b
    · have : 0xFF < b.toNat + 0x60 := by
        simp only [highNibble] at h
        omega
      simp [h, this]
    · simp [h, Nat.le_of_lt_succ hb]

/-- DAA's two steps add the correction of the closed form (R135). -/
theorem daaCore_eq (a : Byte) (f : Flags) :
    daaCore a f =
      let v := BitVec.ofNat 8 (daaStep1 a f + (if daaHigh a f then 0x60 else 0))
      (v, flagsOf v (daaLow a f && decide (15 < a.toNat % 16 + 6)) (daaHigh a f)) := by
  have hunfold : daaCore a f =
      let b := BitVec.ofNat 8 (daaStep1 a f)
      let c := f.cy || decide (0xFF < daaStep1 a f)
      let s2 := b.toNat + (if decide (9 < highNibble b) || c then 0x60 else 0)
      (BitVec.ofNat 8 s2, flagsOf (BitVec.ofNat 8 s2) (daaLow a f && decide (15 < a.toNat % 16 + 6))
        (c || decide (0xFF < s2))) := rfl
  have hcut (c : Nat) : BitVec.ofNat 8 ((BitVec.ofNat 8 (daaStep1 a f)).toNat + c) = BitVec.ofNat 8 (daaStep1 a f + c) := by
    apply BitVec.eq_of_toNat_eq
    simp
  rw [hunfold]
  dsimp only
  rw [daaStep2_carry, ← daaHigh_eq_step2_test, hcut]


theorem daaLow_iff (a : Byte) (f : Flags) : daaLow a f = true ↔ 9 < a.toNat % 16 ∨ f.ac = true := by
  simp [daaLow]

theorem daaHigh_iff (a : Byte) (f : Flags) :
    daaHigh a f = true ↔
      9 < a.toNat / 16 ∨ f.cy = true ∨ (9 ≤ a.toNat / 16 ∧ 9 < a.toNat % 16) := by
  simp [daaHigh, or_assoc]

/-- Settles O29: the correction of `daaCore_eq` is the one of the case at hand. -/
theorem daaMeetsItsClosedForm : Obligations.DaaMeetsItsClosedForm := by
  intro s
  refine ⟨rfl, _, rfl, ?_, flagsOf_zspOf _ _ _, setAccumulator_accKept _ s 4, rfl⟩
  intro lsb msb low high corr hcorr
  have hlow : daaLow (s.reg .a) s.flags = true ↔ low := daaLow_iff _ _
  have hhigh : daaHigh (s.reg .a) s.flags = true ↔ high := daaHigh_iff _ _
  have hsum : daaStep1 (s.reg .a) s.flags + (if daaHigh (s.reg .a) s.flags then 0x60 else 0) = accNum s + corr ∧
      corr % 16 = if daaLow (s.reg .a) s.flags then 6 else 0 := by
    obtain ⟨hl, hh, rfl⟩ | ⟨hl, hh, rfl⟩ | ⟨hl, hh, rfl⟩ | ⟨hl, hh, rfl⟩ := hcorr <;>
      simp [daaStep1, accNum, hlow, hhigh, hl, hh]
  obtain ⟨hvalue, hnibble⟩ := hsum
  have hafter := daaCore_eq (s.reg .a) s.flags
  refine ⟨?_, ?_, ?_⟩
  · rw [← hvalue, accNum, reg_setAccumulator_a, hafter]
    exact BitVec.toNat_ofNat _ 8
  · rw [← hhigh]
    change (daaCore (s.reg .a) s.flags).2.cy = true ↔ _
    rw [hafter]
    exact Iff.rfl
  · change (daaCore (s.reg .a) s.flags).2.ac = true ↔ 15 < lsb + corr % 16
    have hlsb : lsb < 16 := Nat.mod_lt _ (by decide)
    rw [hafter, hnibble]
    cases daaLow (s.reg .a) s.flags
    · simpa [flagsOf] using Nat.le_of_lt_succ hlsb
    · exact decide_eq_true_iff

/-! ## INR and DCR (R130, R131) -/

theorem incCore_spec (v : Byte) (f : Flags) :
    (incCore v f).1.toNat = (v.toNat + 1) % 256 ∧ ZspOf (incCore v f).2 (incCore v f).1 ∧
      ((incCore v f).2.ac = true ↔ v.toNat % 16 = 15) ∧ (incCore v f).2.cy = f.cy :=
  ⟨BitVec.toNat_add v 1, flagsOf_zspOf _ _ _, beq_iff_eq, rfl⟩

theorem decCore_spec (v : Byte) (f : Flags) :
    (decCore v f).1.toNat = (v.toNat + 255) % 256 ∧ ZspOf (decCore v f).2 (decCore v f).1 ∧
      ((decCore v f).2.ac = true ↔ v.toNat % 16 = 0) ∧ (decCore v f).2.cy = f.cy := by
  refine ⟨?_, flagsOf_zspOf _ _ _, decide_eq_true_iff.trans Nat.lt_one_iff, rfl⟩
  rw [Nat.add_comm]
  exact BitVec.toNat_sub v 1

/-- The state after an operand and the flags are written with a computed result. -/
def State.withResult (s : State) (x : R8) (c : Byte × Flags) (n : Nat) : State :=
  ((writeR8 s x c.1).setFlags c.2).charge n

theorem increment_eq (x : R8) (s : State) :
    increment x s = s.withResult x (incCore (readR8 s x) s.flags) (cyclesFor x 5 10) := rfl

theorem decrement_eq (x : R8) (s : State) :
    decrement x s = s.withResult x (decCore (readR8 s x) s.flags) (cyclesFor x 5 10) := rfl

/-- What holds of the operand's old value and the result holds of the operand before and after (R14). -/
theorem withResult_operand {s : State} (h : s.mem.wf = true) (x : R8) {c : Byte × Flags} (n : Nat)
    {P : Byte → Byte → Prop} :
    P (readR8 s x) c.1 →
    match x with
    | .reg r => P (s.reg r) ((s.withResult x c n).reg r)
    | .m => P (s.read8 (pairValue s .hl)) ((s.withResult x c n).read8 (pairValue s .hl)) := by
  intro hP
  cases x with
  | reg r =>
    have hnew : (s.withResult (.reg r) c n).reg r = c.1 := (reg_setReg s r r c.1).trans (if_pos rfl)
    simp only [hnew]
    exact hP
  | m =>
    have hnew : (s.withResult .m c n).read8 s.hl = c.1 := (read8_write8 h s.hl s.hl c.1).trans (if_pos rfl)
    simp only [pairValue_eq_pair]
    exact hnew.symm ▸ hP

/-- Writing an operand and the flags leaves all else. -/
theorem withResult_kept {s : State} (h : s.mem.wf = true) (x : R8) (c : Byte × Flags) (n : Nat) :
    let t := s.withResult x c n
    RegsKept s t (r8Regs x) ∧ MemKept s t (r8Stored s x) ∧ t.sp = s.sp ∧ t.pc = s.pc ∧ SystemKept s t ∧ Cost s t n := by
  cases x with
  | reg r => exact ⟨regsKept_of_set (x := r) rfl, fun _ _ => rfl, rfl, rfl, systemKept_refl s, rfl⟩
  | m =>
    refine ⟨fun _ _ => rfl, fun a ha => ?_, rfl, rfl, systemKept_refl s, rfl⟩
    rw [r8Stored, pairValue_eq_pair, List.mem_singleton] at ha
    exact (read8_write8 h s.hl a c.1).trans (if_neg ha)

/-- Settles O26: the operand's new byte and the flags are those of `incCore` and `decCore`. -/
theorem inrAndDcrStepTheOperand : Obligations.InrAndDcrStepTheOperand := by
  intro x s hwf
  simp only [r8Value_eq_readR8]
  refine ⟨⟨encode_inr x, _, (exec_inr x s).trans (congrArg _ (increment_eq x s)), ?_⟩, encode_dcr x, _,
    (exec_dcr x s).trans (congrArg _ (decrement_eq x s)), ?_⟩
  · obtain ⟨hvalue, hzsp, hac, hcy⟩ := incCore_spec (readR8 s x) s.flags
    obtain ⟨hregs, hmem, hsp, hpc, hsystem, hcost⟩ :=
      withResult_kept hwf x (incCore (readR8 s x) s.flags) (cyclesFor x 5 10)
    have hoperand := withResult_operand hwf x (cyclesFor x 5 10)
      (P := fun old new => new.toNat = (old.toNat + 1) % 256 ∧ ZspOf (incCore (readR8 s x) s.flags).2 new)
      ⟨hvalue, hzsp⟩
    exact ⟨hoperand, hac, hcy, hregs, hmem, hsp, hpc, hsystem, cost_cyclesFor hcost⟩
  · obtain ⟨hvalue, hzsp, hac, hcy⟩ := decCore_spec (readR8 s x) s.flags
    obtain ⟨hregs, hmem, hsp, hpc, hsystem, hcost⟩ :=
      withResult_kept hwf x (decCore (readR8 s x) s.flags) (cyclesFor x 5 10)
    have hoperand := withResult_operand hwf x (cyclesFor x 5 10)
      (P := fun old new => new.toNat = (old.toNat + 255) % 256 ∧ ZspOf (decCore (readR8 s x) s.flags).2 new)
      ⟨hvalue, hzsp⟩
    exact ⟨hoperand, hac, hcy, hregs, hmem, hsp, hpc, hsystem, cost_cyclesFor hcost⟩

/-! ## INX, DCX and DAD (R132 to R134) -/

/-- A state with one pair written keeps the other registers. -/
theorem regsKept_of_setPair {s t : State} {p : Pair} {v : Word} (h : t.regs = s.regs.setPair p v) :
    RegsKept s t (pairRegs p) := by
  intro r hr
  have hne : r ≠ Pair.high p ∧ r ≠ Pair.low p := by cases p <;> simpa [pairRegs, Pair.high, Pair.low] using hr
  have hreg : t.reg r = (s.setPair p v).reg r := reg_congr h r
  rw [hreg, reg_setPair, if_neg hne.1, if_neg hne.2]

/-- What writing a pair or SP leaves alone (R15). -/
theorem writeRP_kept (s : State) (p : RP) (v : Word) (n : Nat) :
    let t := (writeRP s p v).charge n
    readRP t p = v ∧
      (match p with
        | .pair q => RegsKept s t (pairRegs q) ∧ t.sp = s.sp
        | .sp => RegsKept s t []) ∧
      MemKept s t [] ∧ t.pc = s.pc ∧ t.flags = s.flags ∧ SystemKept s t ∧ Cost s t n := by
  cases p with
  | pair q =>
    exact ⟨pair_setPair_same s q v, ⟨regsKept_of_setPair (p := q) rfl, rfl⟩, fun _ _ => rfl, rfl, rfl, systemKept_refl s,
      rfl⟩
  | sp => exact ⟨rfl, fun _ _ => rfl, fun _ _ => rfl, rfl, rfl, systemKept_refl s, rfl⟩

/-- Settles O27: the pair is read, moved by one modulo 2^16, and written back. -/
theorem inxAndDcxStepThePair : Obligations.InxAndDcxStepThePair := by
  intro p s
  simp only [rpValue_eq_readRP]
  refine ⟨⟨encode_inx p, _, exec_inx p s, ?_⟩, encode_dcx p, _, exec_dcx p s, ?_⟩
  · obtain ⟨hvalue, hkept⟩ := writeRP_kept s p (readRP s p + 1) 5
    exact ⟨(congrArg BitVec.toNat hvalue).trans (BitVec.toNat_add _ 1), hkept⟩
  · obtain ⟨hvalue, hkept⟩ := writeRP_kept s p (readRP s p - 1) 5
    refine ⟨(congrArg BitVec.toNat hvalue).trans ?_, hkept⟩
    rw [Nat.add_comm]
    exact BitVec.toNat_sub _ 1

/-- Settles O28: HL is written with the sum modulo 2^16, and CY with its carry. -/
theorem dadAddsPairToHl : Obligations.DadAddsPairToHl := by
  intro p s
  simp only [rpValue_eq_readRP, pairValue_eq_pair]
  refine ⟨encode_dad p, _, exec_dad p s, ?_, decide_eq_true_iff, ⟨rfl, rfl, rfl, rfl⟩,
    regsKept_of_setPair (p := .hl) rfl, fun _ _ => rfl, rfl, rfl, systemKept_refl s, rfl⟩
  exact (congrArg BitVec.toNat (pair_setPair_same s .hl _)).trans (BitVec.toNat_ofNat _ 16)

/-! ## Logic (R150 to R159) -/

/-- Settles O30: A and the flags are those of `andCore`. -/
theorem andSetsAAndAllFlags : Obligations.AndSetsAAndAllFlags := by
  intro s
  simp only [r8Value_eq_readR8]
  refine ⟨fun x => ⟨encode_alu .ana x, _, exec_ana x s, fun _ => BitVec.getLsbD_and, BitVec.getLsbD_or, rfl,
    flagsOf_zspOf _ _ _, setAccumulator_accKept _ s _, cost_cyclesFor rfl⟩, fun v => ⟨rfl, _, rfl,
    fun _ => BitVec.getLsbD_and, BitVec.getLsbD_or, rfl, flagsOf_zspOf _ _ _, setAccumulator_accKept _ s 7, rfl⟩⟩

/-- A and the flags after an exclusive or (R153, R154). -/
theorem xorCore_result (s : State) (b : Byte) (n : Nat) :
    let t := (setAccumulator (xorCore (s.reg .a) b) s).charge n
    (∀ k : Nat, (t.reg .a).getLsbD k = ((s.reg .a).getLsbD k ^^ b.getLsbD k)) ∧ t.flags.ac = false ∧
      t.flags.cy = false ∧ ZspOf t.flags (t.reg .a) ∧ AccKept s t [.a] :=
  ⟨fun _ => BitVec.getLsbD_xor, rfl, rfl, flagsOf_zspOf _ _ _, setAccumulator_accKept _ s n⟩

/-- A and the flags after an inclusive or (R155, R156). -/
theorem orCore_result (s : State) (b : Byte) (n : Nat) :
    let t := (setAccumulator (orCore (s.reg .a) b) s).charge n
    (∀ k : Nat, (t.reg .a).getLsbD k = ((s.reg .a).getLsbD k || b.getLsbD k)) ∧ t.flags.ac = false ∧
      t.flags.cy = false ∧ ZspOf t.flags (t.reg .a) ∧ AccKept s t [.a] :=
  ⟨fun _ => BitVec.getLsbD_or, rfl, rfl, flagsOf_zspOf _ _ _, setAccumulator_accKept _ s n⟩

/-- Settles O31: A and the flags are those of `xorCore` and `orCore`. -/
theorem xorAndOrSetAAndAllFlags : Obligations.XorAndOrSetAAndAllFlags := by
  intro s
  simp only [r8Value_eq_readR8]
  refine ⟨fun x => ⟨⟨encode_alu .xra x, _, exec_xra x s, ?_⟩, encode_alu .ora x, _, exec_ora x s, ?_⟩, fun v =>
    ⟨⟨rfl, _, rfl, ?_⟩, rfl, _, rfl, ?_⟩⟩
  · obtain ⟨hbits, hac, hcy, hzsp, hkept⟩ := xorCore_result s (readR8 s x) (cyclesFor x 4 7)
    exact ⟨hbits, hac, hcy, hzsp, hkept, cost_cyclesFor rfl⟩
  · obtain ⟨hbits, hac, hcy, hzsp, hkept⟩ := orCore_result s (readR8 s x) (cyclesFor x 4 7)
    exact ⟨hbits, hac, hcy, hzsp, hkept, cost_cyclesFor rfl⟩
  · obtain ⟨hbits, hac, hcy, hzsp, hkept⟩ := xorCore_result s v 7
    exact ⟨hbits, hac, hcy, hzsp, hkept, rfl⟩
  · obtain ⟨hbits, hac, hcy, hzsp, hkept⟩ := orCore_result s v 7
    exact ⟨hbits, hac, hcy, hzsp, hkept, rfl⟩

/-- Settles O32: CMA writes A alone, CMC and STC write CY alone. -/
theorem cmaCmcStc : Obligations.CmaCmcStc := by
  intro s
  refine ⟨⟨rfl, _, rfl, ?_, rfl, ⟨regsKept_of_set (x := .a) rfl, fun _ _ => rfl, rfl, rfl, systemKept_refl s⟩, rfl⟩,
    ⟨rfl, _, rfl, ?_, ⟨rfl, rfl, rfl, rfl⟩, setFlags_accKept _ s 4, rfl⟩,
    rfl, _, rfl, rfl, ⟨rfl, rfl, rfl, rfl⟩, setFlags_accKept _ s 4, rfl⟩
  · exact BitVec.toNat_not
  · change num (!s.flags.cy) = _
    cases s.flags.cy <;> rfl

/-! ## Rotates (R170 to R174) -/

/-- RLC is RAL with bit 7 itself carried in. -/
theorem rotateLeft_eq (a : Byte) : rotateLeft a = rotateLeftCarry a (a.getLsbD 7) := by
  have hbit : a.extractLsb' 7 1 = BitVec.ofBool (a.getLsbD 7) := by
    refine BitVec.eq_of_getLsbD_eq fun k hk => ?_
    obtain rfl := Nat.lt_one_iff.mp hk
    simp
  rw [rotateLeft, hbit, rotateLeftCarry]

/-- RRC is RAR with bit 0 itself carried in. -/
theorem rotateRight_eq (a : Byte) : rotateRight a = rotateRightCarry a (a.getLsbD 0) := by
  have hbit : a.extractLsb' 0 1 = BitVec.ofBool (a.getLsbD 0) := by
    refine BitVec.eq_of_getLsbD_eq fun k hk => ?_
    obtain rfl := Nat.lt_one_iff.mp hk
    simp
  rw [rotateRight, hbit, rotateRightCarry]

theorem rotateLeftCarry_succ (a : Byte) (cy : Bool) {k : Nat} (hk : k < 7) :
    (rotateLeftCarry a cy).1.getLsbD (k + 1) = a.getLsbD k := by
  rw [rotateLeftCarry, BitVec.getLsbD_append]
  simp [hk]

theorem rotateLeftCarry_zero (a : Byte) (cy : Bool) : (rotateLeftCarry a cy).1.getLsbD 0 = cy := by
  rw [rotateLeftCarry, BitVec.getLsbD_append]
  simp

theorem rotateRightCarry_lt (a : Byte) (cy : Bool) {k : Nat} (hk : k < 7) :
    (rotateRightCarry a cy).1.getLsbD k = a.getLsbD (k + 1) := by
  rw [rotateRightCarry, BitVec.getLsbD_append]
  simp [hk, Nat.add_comm]

theorem rotateRightCarry_seven (a : Byte) (cy : Bool) : (rotateRightCarry a cy).1.getLsbD 7 = cy := by
  rw [rotateRightCarry, BitVec.getLsbD_append]
  simp

/-- A rotate writes A and CY alone, in 4 cycles (R170). -/
theorem rotate_kept (r : Byte × Bool) (s : State) :
    OnlyCy s (rotate r s) ∧ AccKept s (rotate r s) [.a] ∧ Cost s (rotate r s) 4 :=
  ⟨⟨rfl, rfl, rfl, rfl⟩, ⟨regsKept_of_set (x := .a) rfl, fun _ _ => rfl, rfl, rfl, systemKept_refl s⟩, rfl⟩

/-- Settles O33: the bits of a rotate through the carry, with the carry-in of each instruction. -/
theorem rotatesMoveEveryBit : Obligations.RotatesMoveEveryBit := by
  intro s
  have hleft (k : Nat) (hk : k < 7) : (rotateLeft (s.reg .a)).1.getLsbD (k + 1) = (s.reg .a).getLsbD k := by
    rw [rotateLeft_eq, rotateLeftCarry_succ _ _ hk]
  have hleft0 : (rotateLeft (s.reg .a)).1.getLsbD 0 = (s.reg .a).getLsbD 7 := by
    rw [rotateLeft_eq, rotateLeftCarry_zero]
  have hright (k : Nat) (hk : k < 7) : (rotateRight (s.reg .a)).1.getLsbD k = (s.reg .a).getLsbD (k + 1) := by
    rw [rotateRight_eq, rotateRightCarry_lt _ _ hk]
  have hright7 : (rotateRight (s.reg .a)).1.getLsbD 7 = (s.reg .a).getLsbD 0 := by
    rw [rotateRight_eq, rotateRightCarry_seven]
  exact ⟨⟨rfl, _, rfl, hleft, hleft0, rfl, rotate_kept _ s⟩, ⟨rfl, _, rfl, hright, hright7, rfl, rotate_kept _ s⟩,
    ⟨rfl, _, rfl, fun k hk => rotateLeftCarry_succ _ _ hk, rotateLeftCarry_zero _ _, rfl, rotate_kept _ s⟩,
    rfl, _, rfl, fun k hk => rotateRightCarry_lt _ _ hk, rotateRightCarry_seven _ _, rfl, rotate_kept _ s⟩

end Sys2Proof.Machine
end

section
/-! Data movement, branches and the stack (spec/40_data_movement.md, spec/45_branch.md, spec/46_stack.md), and pairs of
instructions that undo each other. -/

namespace Sys2Proof.Machine

open Sys2Proof.Stmt

/-! ## Encodings (R71, R72, R76) -/

/-- The statements' bytes of a word are the encoder's. -/
theorem encode_word {i : Instr} {op : Byte} {w : Word} (h : encode i = [op, immLow w, immHigh w]) :
    encode i = [op, lo8 w, hi8 w] := by
  rw [h, immLow_eq_lowByte, immHigh_eq_highByte, lo8_eq_lowByte, hi8_eq_highByte]

theorem encode_movRR (dst src : Reg) : encode (.movRR dst src) = [byteOf (0x40 + 8 * regCode dst + regCode src)] := by
  cases dst <;> cases src <;> rfl

theorem encode_movRM (dst : Reg) : encode (.movRM dst) = [byteOf (0x46 + 8 * regCode dst)] := by
  cases dst <;> rfl

theorem encode_movMR (src : Reg) : encode (.movMR src) = [byteOf (0x70 + regCode src)] := by
  cases src <;> rfl

theorem encode_mviR (dst : Reg) (v : Byte) : encode (.mviR dst v) = [byteOf (0x06 + 8 * regCode dst), v] := by
  cases dst <;> rfl

theorem encode_lxi (p : RP) (w : Word) : encode (.lxi p w) = [byteOf (0x01 + 16 * rpCode p), immLow w, immHigh w] := by
  rcases p with ⟨_ | _ | _⟩ | _ <;> rfl

theorem encode_ldax (p : AddrPair) : encode (.ldax p) = [byteOf (0x0A + 16 * addrCode p)] := by
  cases p <;> rfl

theorem encode_stax (p : AddrPair) : encode (.stax p) = [byteOf (0x02 + 16 * addrCode p)] := by
  cases p <;> rfl

theorem encode_jumpIf (k : Cond) (w : Word) : encode (.jumpIf k w) = [byteOf (0xC2 + 8 * condCode k), lo8 w, hi8 w] :=
  encode_word (by cases k <;> rfl)

theorem encode_callIf (k : Cond) (w : Word) : encode (.callIf k w) = [byteOf (0xC4 + 8 * condCode k), lo8 w, hi8 w] :=
  encode_word (by cases k <;> rfl)

theorem encode_retIf (k : Cond) : encode (.retIf k) = [byteOf (0xC0 + 8 * condCode k)] := by
  cases k <;> rfl

theorem encode_rst (n : Fin 8) : encode (.rst n) = [byteOf (0xC7 + 8 * n.val)] := by
  match n with
  | 0 | 1 | 2 | 3 | 4 | 5 | 6 | 7 => rfl

theorem encode_push (p : Pair) : encode (.push p) = [byteOf (0xC5 + 16 * pairCode p)] := by
  cases p <;> rfl

theorem encode_pop (p : Pair) : encode (.pop p) = [byteOf (0xC1 + 16 * pairCode p)] := by
  cases p <;> rfl

/-! ## What a load and a store leave alone (R100) -/

theorem plainKept_refl (s : State) : PlainKept s s := ⟨rfl, rfl, rfl, systemKept_refl s⟩

/-- Loading a register. -/
theorem setReg_loads (s : State) (r : Reg) (v : Byte) (n : Nat) :
    let t := (s.setReg r v).charge n
    t.reg r = v ∧ RegsKept s t [r] ∧ MemKept s t [] ∧ PlainKept s t ∧ Cost s t n :=
  ⟨(reg_setReg s r r v).trans (if_pos rfl), regsKept_of_set (x := r) rfl, fun _ _ => rfl, plainKept_refl s, rfl⟩

theorem reg_setPair_high (s : State) (p : Pair) (v : Word) : (s.setPair p v).reg (Pair.high p) = highByte v :=
  (reg_setPair s p v _).trans (if_pos rfl)

theorem reg_setPair_low (s : State) (p : Pair) (v : Word) : (s.setPair p v).reg (Pair.low p) = lowByte v := by
  have hne : Pair.low p ≠ Pair.high p := by cases p <;> decide
  rw [reg_setPair, if_neg hne, if_pos rfl]

/-- Writing a pair with the word of two bytes (R11). -/
theorem setPair_wordOf (s : State) (p : Pair) (hi lo : Byte) (n : Nat) :
    let t := (s.setPair p (wordOf hi lo)).charge n
    t.reg (Pair.low p) = lo ∧ t.reg (Pair.high p) = hi ∧ RegsKept s t (pairRegs p) ∧ t.sp = s.sp := by
  rw [wordOf_eq_joinBytes]
  exact ⟨(reg_setPair_low s p _).trans (lowByte_joinBytes hi lo), (reg_setPair_high s p _).trans (highByte_joinBytes hi lo),
    regsKept_of_setPair (p := p) rfl, rfl⟩

/-- Storing a byte. -/
theorem write8_stores {s : State} (h : s.mem.wf = true) (a : Word) (v : Byte) (n : Nat) :
    let t := (s.write8 a v).charge n
    t.read8 a = v ∧ RegsKept s t [] ∧ MemKept s t [a] ∧ PlainKept s t ∧ Cost s t n :=
  ⟨(read8_write8 h a a v).trans (if_pos rfl), fun _ _ => rfl,
    fun b hb => (read8_write8 h a b v).trans (if_neg (mt List.mem_singleton.mpr hb)), plainKept_refl s, rfl⟩

theorem ne_add_one (a : Word) : a ≠ a + 1 := by
  intro h
  have := congrArg (· - a) h
  simp [BitVec.add_comm a] at this

/-- Storing a word, low byte at the lower address (R54). -/
theorem write16_stores {s t : State} (h : s.mem.wf = true) {a v : Word} (hmem : t.mem = (s.write16 a v).mem) :
    t.read8 a = lowByte v ∧ t.read8 (a + 1) = highByte v ∧ MemKept s t [a, a + 1] := by
  have hread (b : Word) := (read8_congr hmem b).trans (read8_write16 h a v b)
  refine ⟨?_, ?_, fun b hb => ?_⟩
  · rw [hread, if_neg (ne_add_one a), if_pos rfl]
  · rw [hread, if_pos rfl]
  · rw [List.mem_cons, List.mem_singleton, not_or] at hb
    rw [hread, if_neg hb.2, if_neg hb.1]

theorem lowByte_hl (s : State) : lowByte s.hl = s.reg .l := lowByte_joinBytes _ _

theorem highByte_hl (s : State) : highByte s.hl = s.reg .h := highByte_joinBytes _ _

theorem lowByte_read16 (s : State) (a : Word) : lowByte (s.read16 a) = s.read8 a := lowByte_joinBytes _ _

theorem highByte_read16 (s : State) (a : Word) : highByte (s.read16 a) = s.read8 (a + 1) := highByte_joinBytes _ _

/-! ## Data movement (R101 to R116) -/

/-- Settles O13: the source's value is written to the destination. -/
theorem movCopiesRegisterToRegister : Obligations.MovCopiesRegisterToRegister :=
  fun dst src s => ⟨encode_movRR dst src, _, exec_movRR dst src s, setReg_loads s dst (s.reg src) 5⟩

/-- Settles O14: the byte at the old HL is written to the destination. -/
theorem movLoadsRegisterFromMemory : Obligations.MovLoadsRegisterFromMemory := by
  intro dst s
  rw [pairValue_eq_pair]
  exact ⟨encode_movRM dst, _, exec_movRM dst s, setReg_loads s dst (s.read8 s.hl) 7⟩

/-- Settles O15: one store at HL. -/
theorem movAndMviStoreAtHl : Obligations.MovAndMviStoreAtHl := by
  intro s hwf
  rw [pairValue_eq_pair]
  exact ⟨fun src => ⟨encode_movMR src, _, exec_movMR src s, write8_stores hwf s.hl (s.reg src) 7⟩,
    fun v => ⟨rfl, _, rfl, write8_stores hwf s.hl v 10⟩⟩

/-- Settles O16: the immediate is written to the destination. -/
theorem mviLoadsRegister : Obligations.MviLoadsRegister :=
  fun dst v s => ⟨encode_mviR dst v, _, exec_mviR dst v s, setReg_loads s dst v 7⟩

/-- Settles O17: the pair, or SP, is written with the word of the two operand bytes. -/
theorem lxiLoadsPair : Obligations.LxiLoadsPair := by
  intro p lo hi s
  refine ⟨?_, _, exec_lxi p _ s, ?_⟩
  · rw [encode_lxi, wordOf_eq_joinBytes]
    exact congrArg₂ (fun b c => [_, b, c]) (immLow_imm16 lo hi) (immHigh_imm16 lo hi)
  · obtain ⟨-, -, hmem, hpc, hflags, hsystem, hcost⟩ := writeRP_kept s p (wordOf hi lo) 10
    refine ⟨hmem, hpc, hflags, hsystem, hcost, ?_⟩
    match p with
    | .pair .bc => exact setPair_wordOf s .bc hi lo 10
    | .pair .de => exact setPair_wordOf s .de hi lo 10
    | .pair .hl => exact setPair_wordOf s .hl hi lo 10
    | .sp => exact ⟨rfl, fun _ _ => rfl⟩

/-- Settles O18: LDA writes A, LHLD writes HL with the word at the address. -/
theorem ldaAndLhldLoadDirect : Obligations.LdaAndLhldLoadDirect := by
  intro w s
  refine ⟨⟨encode_word rfl, _, rfl, setReg_loads s .a (s.read8 w) 13⟩, encode_word rfl, _, rfl, ?_, ?_,
    regsKept_of_setPair (p := .hl) rfl, fun _ _ => rfl, plainKept_refl s, rfl⟩
  · exact (reg_setPair_low s .hl _).trans (lowByte_read16 s w)
  · exact (reg_setPair_high s .hl _).trans (highByte_read16 s w)

/-- Settles O19: STA stores A, SHLD stores the word HL. -/
theorem staAndShldStoreDirect : Obligations.StaAndShldStoreDirect := by
  intro w s hwf
  refine ⟨⟨encode_word rfl, _, rfl, write8_stores hwf w (s.reg .a) 13⟩, encode_word rfl, _, rfl, ?_⟩
  obtain ⟨hlow, hhigh, hmem⟩ := write16_stores (t := (s.write16 w s.hl).charge 16) hwf rfl
  exact ⟨hlow.trans (lowByte_hl s), hhigh.trans (highByte_hl s), fun _ _ => rfl, hmem, plainKept_refl s, rfl⟩

/-- Settles O20: the address is BC or DE. -/
theorem ldaxAndStaxUseBcOrDe : Obligations.LdaxAndStaxUseBcOrDe := by
  intro p s hwf
  rw [addrValue_eq_addrOf]
  exact ⟨⟨encode_ldax p, _, exec_ldax p s, setReg_loads s .a (s.read8 (addrOf s p)) 7⟩, encode_stax p, _, exec_stax p s,
    write8_stores hwf (addrOf s p) (s.reg .a) 7⟩

/-- The state XCHG leaves (R113). -/
theorem after_xchg (s : State) :
    s.after .xchg =
      { s with
          regs := { s.regs with h := s.regs.d, l := s.regs.e, d := s.regs.h, e := s.regs.l }
          cyc := s.cyc + 5 } := by
  have hregs : (s.regs.setPair .hl (s.pair .de)).setPair .de s.hl =
      { s.regs with h := s.regs.d, l := s.regs.e, d := s.regs.h, e := s.regs.l } := by
    simp [Regs.setPair, Regs.set, Pair.high, Pair.low, State.hl, State.pair, Regs.getPair, Regs.get]
  rw [← hregs]
  rfl

/-- Settles O21: HL and DE are read before either is written. -/
theorem xchgSwapsHlWithDe : Obligations.XchgSwapsHlWithDe := by
  intro s
  refine ⟨rfl, _, exec_eq_after _ s, ?_⟩
  rw [after_xchg]
  refine ⟨rfl, rfl, rfl, rfl, fun r hr => ?_, fun _ _ => rfl, plainKept_refl s, rfl⟩
  cases r with
  | b | c | a => rfl
  | h | l | d | e => exact absurd (by decide) hr

/-- Settles O22: the word at SP and HL are read before either is written. -/
theorem xthlSwapsHlWithTopOfStack : Obligations.XthlSwapsHlWithTopOfStack := by
  intro s hwf
  obtain ⟨hlow, hhigh, hmem⟩ := write16_stores (t := s.after .xthl) (v := s.hl) hwf rfl
  refine ⟨rfl, _, exec_eq_after _ s, ?_, ?_, hlow.trans (lowByte_hl s), hhigh.trans (highByte_hl s),
    regsKept_of_setPair (p := .hl) rfl, hmem, plainKept_refl s, rfl⟩
  · exact (reg_setPair_low _ .hl _).trans (lowByte_read16 s s.sp)
  · exact (reg_setPair_high _ .hl _).trans (highByte_read16 s s.sp)

/-- Settles O23: SP or PC is written with HL. -/
theorem sphlAndPchlCopyHl : Obligations.SphlAndPchlCopyHl := by
  intro s
  rw [pairValue_eq_pair]
  exact ⟨⟨rfl, _, rfl, rfl, fun _ _ => rfl, fun _ _ => rfl, rfl, rfl, systemKept_refl s, rfl⟩,
    rfl, _, rfl, rfl, fun _ _ => rfl, fun _ _ => rfl, rfl, rfl, systemKept_refl s, rfl⟩

/-! ## Branches (R191 to R197) -/

theorem branchKept_refl (s : State) : BranchKept s s := ⟨fun _ _ => rfl, rfl, systemKept_refl s⟩

/-- Settles O35: PC is written, by a conditional jump when its condition holds. -/
theorem jumpsWritePcOnly : Obligations.JumpsWritePcOnly := by
  intro w s
  refine ⟨encode_word rfl, encode_word rfl, fun i hi => ?_, fun k => ⟨encode_jumpIf k w, _, exec_jumpIf k w s, ?_⟩⟩
  · have hjump : i ∈ Instr.jumps w := by simpa [Instr.jumps] using hi
    exact ⟨_, exec_jumps hjump s, rfl, rfl, fun _ _ => rfl, branchKept_refl s, rfl⟩
  · rw [jumpWhen_eq, condTrue_iff]
    exact ⟨fun hk => if_pos hk, fun hk => if_neg hk, rfl, fun _ _ => rfl, branchKept_refl s, rfl⟩

/-- Settles O36: the old PC is pushed and PC written. -/
theorem callPushesReturnAddress : Obligations.CallPushesReturnAddress := by
  intro w s hwf
  refine ⟨encode_word rfl, encode_word rfl, encode_word rfl, encode_word rfl, fun i hi => ?_⟩
  have hcall : i ∈ Instr.calls w := by simpa [Instr.calls] using hi
  exact ⟨_, exec_calls hcall s, rfl, pushedWord_push16 hwf rfl rfl, branchKept_refl s, rfl⟩

/-- Settles O37: the call of `callWhen_cases` when the condition holds, and nothing otherwise. -/
theorem conditionalCallTakenOrNot : Obligations.ConditionalCallTakenOrNot := by
  intro k w s hwf
  refine ⟨encode_callIf k w, _, exec_callIf k w s, ?_⟩
  rw [condTrue_iff]
  obtain ⟨hk, h⟩ | ⟨hk, h⟩ := callWhen_cases k w s <;> rw [h, hk]
  · exact ⟨branchKept_refl s, fun _ => ⟨rfl, pushedWord_push16 hwf rfl rfl, rfl⟩, fun hnot => absurd rfl hnot⟩
  · exact ⟨branchKept_refl s, nofun, fun _ => ⟨rfl, rfl, fun _ _ => rfl, rfl⟩⟩

/-- Settles O38: the word at SP is popped into PC, by a conditional return when its condition holds. -/
theorem returnsPopPc : Obligations.ReturnsPopPc := by
  intro s
  rw [topOfStack_eq_read16]
  refine ⟨rfl, rfl, fun i hi => ?_, fun k => ⟨encode_retIf k, _, exec_retIf k s, ?_⟩⟩
  · have hreturn : i ∈ Instr.returns := by simpa [Instr.returns] using hi
    exact ⟨_, exec_returns hreturn s, rfl, rfl, fun _ _ => rfl, branchKept_refl s, rfl⟩
  · rw [condTrue_iff]
    obtain ⟨hk, h⟩ | ⟨hk, h⟩ := returnWhen_cases k s <;> rw [h, hk]
    · exact ⟨fun _ _ => rfl, branchKept_refl s, fun _ => ⟨rfl, rfl, rfl⟩, fun hnot => absurd rfl hnot⟩
    · exact ⟨fun _ _ => rfl, branchKept_refl s, nofun, fun _ => ⟨rfl, rfl, rfl⟩⟩

/-- Settles O39: a call of the address 8n. -/
theorem rstCallsItsVector : Obligations.RstCallsItsVector := by
  intro n s hwf
  refine ⟨encode_rst n, _, exec_rst n s, Nat.mod_eq_of_lt ?_, pushedWord_push16 hwf rfl rfl, branchKept_refl s, rfl⟩
  have := n.isLt
  omega

/-! ## The stack (R221 to R224) -/

/-- The packed status byte as a number (R25). -/
theorem pswByte_toNat : ∀ s z ac p cy : Bool,
    (pswByte ⟨s, z, ac, p, cy⟩).toNat = 128 * num s + 64 * num z + 16 * num ac + 4 * num p + 2 + num cy := by decide

/-- Settles O40: the pair, or A and the packed flags, is pushed. -/
theorem pushStoresBelowSp : Obligations.PushStoresBelowSp := by
  intro s hwf
  simp only [pairValue_eq_pair]
  refine ⟨fun p => ⟨encode_push p, _, exec_push p s, pushedWord_push16 hwf rfl rfl, rfl, branchKept_refl s, rfl⟩,
    rfl, _, exec_pushPsw s, ?_⟩
  obtain ⟨hhigh, hlow, hsp, hmem⟩ := pushedWord_push16 (t := pushedPsw s) hwf rfl rfl
  rw [hi8_eq_highByte, highByte_joinBytes] at hhigh
  rw [lo8_eq_lowByte, lowByte_joinBytes] at hlow
  refine ⟨hhigh, ?_, hsp, hmem, rfl, branchKept_refl s, rfl⟩
  rw [hlow]
  exact pswByte_toNat _ _ _ _ _

/-- Settles O41: the word at SP is popped into the pair, or its bytes into A and the flags. -/
theorem popLoadsFromSp : Obligations.PopLoadsFromSp := by
  intro s
  simp only [pairValue_eq_pair, topOfStack_eq_read16]
  exact ⟨fun p => ⟨encode_pop p, _, exec_pop p s, pair_setPair_same _ p _, regsKept_of_setPair (p := p) rfl, rfl,
    fun _ _ => rfl, rfl, rfl, systemKept_refl s, rfl⟩, rfl, _, rfl, rfl, rfl, rfl, rfl, rfl, rfl,
    regsKept_of_set (x := .a) rfl, rfl, fun _ _ => rfl, rfl, systemKept_refl s, rfl⟩

/-! ## Pairs of instructions that undo each other (R113, R114, R171 to R174) -/

theorem Regs.setPair_setPair (r : Regs) (p : Pair) (v w : Word) : (r.setPair p v).setPair p w = r.setPair p w := by
  cases p <;> rfl

theorem Regs.setPair_getPair (r : Regs) (p : Pair) : r.setPair p (r.getPair p) = r := by
  cases p <;> simp [Regs.setPair, Regs.getPair, Regs.set, Regs.get, Pair.high, Pair.low]

theorem xchg_xchg (s : State) : { (s.after .xchg).after .xchg with cyc := s.cyc } = s := by
  rw [after_xchg, after_xchg]

/-- The second XTHL stores the bytes that the first one read, and reads those it stored. -/
theorem xthl_xthl {s : State} (h : s.mem.wf = true) : { (s.after .xthl).after .xthl with cyc := s.cyc } = s := by
  have hhl : (s.after .xthl).hl = s.read16 s.sp := pair_setPair_same (s.write16 s.sp s.hl) .hl _
  have hwf : (s.after .xthl).mem.wf = true := write16_wf h s.sp s.hl
  obtain ⟨hlow, hhigh, hkept⟩ := write16_stores (t := s.after .xthl) (v := s.hl) h rfl
  have hword : (s.after .xthl).read16 s.sp = s.hl := by
    rw [State.read16, hlow, hhigh, joinBytes_bytes]
  have hregs : ((s.after .xthl).after .xthl).regs = s.regs := by
    change (s.regs.setPair .hl (s.read16 s.sp)).setPair .hl ((s.after .xthl).read16 s.sp) = s.regs
    rw [hword, Regs.setPair_setPair]
    exact Regs.setPair_getPair s.regs .hl
  obtain ⟨hlow', hhigh', hkept'⟩ :=
    write16_stores (t := (s.after .xthl).after .xthl) (v := (s.after .xthl).hl) (a := s.sp) hwf rfl
  have hmem : ((s.after .xthl).after .xthl).mem = s.mem := by
    refine mem_eq_of_read8 (write16_wf hwf s.sp (s.after .xthl).hl) h fun a => ?_
    by_cases hfirst : a = s.sp
    · rw [hfirst, hlow', hhl, lowByte_read16]
    by_cases hsecond : a = s.sp + 1
    · rw [hsecond, hhigh', hhl, highByte_read16]
    have ha : a ∉ [s.sp, s.sp + 1] := mt List.mem_pair.mp (not_or.mpr ⟨hfirst, hsecond⟩)
    rw [hkept' a ha, hkept a ha]
  exact congrArg₂ (fun (r : Regs) (m : Memory) => { s with regs := r, mem := m }) hregs hmem

/-- RAR undoes RAL. -/
theorem rotateRightCarry_rotateLeftCarry (a : Byte) (cy : Bool) :
    rotateRightCarry (rotateLeftCarry a cy).1 (rotateLeftCarry a cy).2 = (a, cy) := by
  refine Prod.ext (BitVec.eq_of_getLsbD_eq fun k hk => ?_) (rotateLeftCarry_zero a cy)
  by_cases hlt : k < 7
  · rw [rotateRightCarry_lt _ _ hlt, rotateLeftCarry_succ _ _ hlt]
  · obtain rfl : k = 7 := by omega
    exact rotateRightCarry_seven _ _

/-- RRC after RLC restores A, and leaves its bit 7 in CY. -/
theorem rotateRight_rotateLeft (a : Byte) : rotateRight (rotateLeft a).1 = (a, a.getLsbD 7) := by
  rw [rotateRight_eq, rotateLeft_eq, rotateLeftCarry_zero]
  exact rotateRightCarry_rotateLeftCarry a (a.getLsbD 7)

/-- A rotate that puts A's old value back leaves CY as the only change. -/
theorem rotate_rotate_back (s : State) (r : Byte × Bool) (cy : Bool) :
    { rotate (s.reg .a, cy) (rotate r s) with cyc := s.cyc } = { s with flags := { s.flags with cy := cy } } := rfl

/-- Settles O59: each second instruction puts back what the first one moved. -/
theorem pairsOfInstructionsUndoEachOther : Obligations.PairsOfInstructionsUndoEachOther := by
  intro s
  refine ⟨⟨_, _, exec_eq_after _ s, exec_eq_after _ _, xchg_xchg s⟩,
    fun hwf => ⟨_, _, exec_eq_after _ s, exec_eq_after _ _, xthl_xthl hwf⟩, ?_, ?_⟩
  · have hback : exec .rrc (rotate (rotateLeft (s.reg .a)) s) = .next (rotate (s.reg .a, (s.reg .a).getLsbD 7) _) :=
      congrArg (fun r => Host.Outcome.next (rotate r _)) (rotateRight_rotateLeft (s.reg .a))
    exact ⟨_, _, rfl, hback, rfl, rfl⟩
  · have hback : exec .rar (rotate (rotateLeftCarry (s.reg .a) s.flags.cy) s) = .next (rotate (s.reg .a, s.flags.cy) _) :=
      congrArg (fun r => Host.Outcome.next (rotate r _)) (rotateRightCarry_rotateLeftCarry (s.reg .a) s.flags.cy)
    exact ⟨_, _, rfl, hback, rotate_rotate_back s _ s.flags.cy⟩

end Sys2Proof.Machine
end
